-- ==== Sys2Proof/Word.lean ====
section
/-! DEFINITION. The widths of the spec's values (00_scope.md R9, R10). -/

namespace Sys2Proof

/-- A byte, and the width `P_W` of a scalar parameter (R9, R10). -/
abbrev Byte := BitVec 8

/-- `DIM_W` and the UQ8.8 factors: 16 bits (R9). -/
abbrev Half := BitVec 16

/-- One source pixel, `PIX_W` = 24 bits: red 23:16, green 15:8, blue 7:0 (R9, R51). -/
abbrev Pixel := BitVec 24

/-- The opaque identifier an Open request passes through unread (R240).
DESIGN CHOICE (log 11): a list of bytes; the block never looks inside it. -/
abbrev Ident := List Byte

end Sys2Proof
end

