-- ==== Sys2Proof/Machine/Flags.lean ====
section
/-! DEFINITION. The flag computations. The block has no condition flags (R26); its flags are the Boolean parameters
of R23 and R91, carried in `A0` and sent as one byte. -/

namespace Sys2Proof.Machine

/-- `on = (x[A0] != 0)` (R23, R91): any non-zero latch is on. -/
def flagOn (a0 : Byte) : Bool := a0 != 0#8

/-- `b2u(c)`: 1 when the condition holds, else 0 (R11), as the byte a flag contributes to the wire (R91). -/
def b2u (c : Bool) : Byte := if c then 0x01#8 else 0x00#8

/-- The second opcode byte of SetDoubleWidth, selected by the flag: `(on?14:20)` (R92). -/
def doubleWidthOpcode (on : Bool) : Byte := if on then 0x0E#8 else 0x14#8

end Sys2Proof.Machine
end

