-- ==== Sys2Proof/Config.lean ====
section
/-! DEFINITION. The implementation parameters of 00_scope.md R9. Those the spec leaves OPEN (decision D13) are
opaque constants: nothing can evaluate them, so what is proved holds for every value they may have. -/

namespace Sys2Proof.Config

/-! ### Parameters with a value -/

/-- `LEFT_BLANK_MAX` (R9, R96). -/
def leftBlankMax : Nat := 47

/-- `BC_HEIGHT_MIN` (R9, R97). -/
def bcHeightMin : Nat := 1

/-- `BC_WIDTH_LO` (R9, R98). -/
def bcWidthLo : Nat := 2

/-- `BC_WIDTH_HI` (R9, R98). -/
def bcWidthHi : Nat := 3

/-- `BC_MAX`: greatest barcode data length (R9, R55). -/
def bcMax : Nat := 255

/-- `BLACK`: the pixel that is pure black (R9, R53). -/
def black : Pixel := 0x000000#24

/-- `ONLINE`: the flag Init passes to SetStatus (R9, R190). -/
def online : Bool := true

/-- `SCALE_DEFAULT`, 2.0 in UQ8.8 (R9). A requester passes it; the block knows no omitted parameter (R101). -/
def scaleDefault : Half := 0x0200#16

/-- `DARK_DEFAULT`, 1.0 in UQ8.8 (R9). -/
def darkDefault : Half := 0x0100#16

/-- The greatest value a two-byte header field holds (R205). -/
def fieldMax : Nat := 65535

/-! ### OPEN parameters (R9, decision D13), log 6 -/

/-- `DEF_HEAT_DOTS`. -/
opaque defHeatDots : Byte
/-- `DEF_HEAT_TIME`. -/
opaque defHeatTime : Byte
/-- `DEF_HEAT_INTERVAL`. -/
opaque defHeatInterval : Byte
/-- `DEF_DENSITY`. -/
opaque defDensity : Byte
/-- `DEF_BREAK`. -/
opaque defBreak : Byte
/-- `DEF_SLEEP`. -/
opaque defSleep : Byte
/-- `DEF_CODETABLE`. -/
opaque defCodetable : Byte
/-- `DEF_CHARSET`. -/
opaque defCharset : Byte
/-- `DEF_BC_POS`. -/
opaque defBcPos : Byte
/-- `DEF_ALIGN`. -/
opaque defAlign : Byte
/-- `DEF_LEFT_BLANK` as a number below 48: R9 requires `DEF_LEFT_BLANK <= 47`. -/
opaque defLeftBlankIndex : Fin 48
/-- `DEF_BOLD`. -/
opaque defBold : Bool
/-- `DEF_REVERSE`. -/
opaque defReverse : Bool
/-- `DEF_UPDOWN`. -/
opaque defUpdown : Bool
/-- `DEF_UNDERLINE`. -/
opaque defUnderline : Bool
/-- `DEF_BC_HEIGHT - 1`, a number below 255: R9 requires `DEF_BC_HEIGHT >= 1`. -/
opaque defBcHeightIndex : Fin 255
/-- Whether `DEF_BC_WIDTH` is 3: R9 requires it to be 2 or 3. -/
opaque defBcWidthIsHi : Bool

/-- `DEF_LEFT_BLANK`. -/
def defLeftBlank : Byte := BitVec.ofNat 8 defLeftBlankIndex.val
/-- `DEF_BC_HEIGHT`. -/
def defBcHeight : Byte := BitVec.ofNat 8 (defBcHeightIndex.val + 1)
/-- `DEF_BC_WIDTH`. -/
def defBcWidth : Byte := if defBcWidthIsHi then 3#8 else 2#8

end Sys2Proof.Config
end

