-- ==== Sys2Proof/Syntax.lean ====
section
/-! DEFINITION. The requests of the block: the closed set of R3 and R82 as an inductive, one constructor per row of
spec/opcode_table.json, and the binary request record of R80. -/

namespace Sys2Proof

/-- The operand latches of 10_state.md R21: one record, written whole when a request is accepted (R22). -/
structure Latches where
  /-- `OP`, the request tag (R82). -/
  op    : Byte
  /-- `A0`, first scalar parameter. -/
  a0    : Byte
  /-- `A1`, second scalar parameter. -/
  a1    : Byte
  /-- `A2`, third scalar parameter. -/
  a2    : Byte
  /-- `SRC_W`, source image width in pixels. -/
  srcW  : Half
  /-- `SRC_H`, source image height in pixels. -/
  srcH  : Half
  /-- `SCALE`, UQ8.8. -/
  scale : Half
  /-- `DARK`, UQ8.8. -/
  dark  : Half
  /-- `BC_LEN`, number of barcode data bytes. -/
  bcLen : Byte
  deriving DecidableEq, Repr

/-- A request as the request port carries it (R80): the latched record, and the opaque identifier that an Open
request passes through (R82 row 0x20). -/
structure Request where
  latches : Latches
  ident   : Ident
  deriving DecidableEq, Repr

/-- The requests, each carrying only the parameters R82 lists for it. A flag parameter is its Boolean value (R23).
The barcode bytes and the pixels are not operands: they are read from `BCD` and `IMG` (R55, R52). -/
inductive Instr where
  /-- `Reset` (R120). -/
  | reset
  /-- `SetStatus(on)` (R121). -/
  | setStatus (on : Bool)
  /-- `SetControlParameter(d,t,i)` (R122). -/
  | setControlParameter (d t i : Byte)
  /-- `SetSleepTime(s)` (R123). -/
  | setSleepTime (sec : Byte)
  /-- `SetDoubleWidth(true)` (R140, table row `SetDoubleWidth.on`). -/
  | setDoubleWidthOn
  /-- `SetDoubleWidth(false)` (R140, table row `SetDoubleWidth.off`). -/
  | setDoubleWidthOff
  /-- `SetPrintDensity(density,breakTime)` (R124). -/
  | setPrintDensity (density breakTime : Byte)
  /-- `SetCharacterSet(set)` (R141). -/
  | setCharacterSet (set : Byte)
  /-- `SetCodeTable(table)` (R142). -/
  | setCodeTable (table : Byte)
  /-- `Feed()` (R143). -/
  | feed
  /-- `Feed(n)` (R144). -/
  | feedN (n : Byte)
  /-- `SetLineSpacing(n)` (R145). -/
  | setLineSpacing (n : Byte)
  /-- `SetAlign(mode)` (R146). -/
  | setAlign (mode : Byte)
  /-- `SetLeftBlank(n)` (R147). -/
  | setLeftBlank (n : Byte)
  /-- `SetBold(on)` (R148). -/
  | setBold (on : Bool)
  /-- `SetReverse(on)` (R149). -/
  | setReverse (on : Bool)
  /-- `SetUpDown(on)` (R150). -/
  | setUpDown (on : Bool)
  /-- `SetUnderline(on)` (R151). -/
  | setUnderline (on : Bool)
  /-- `SetKeyPanel(on)` (R125). -/
  | setKeyPanel (on : Bool)
  /-- `SetBarcodeReadablePosition(n)` (R170). -/
  | setBarcodeReadablePosition (n : Byte)
  /-- `SetBarcodeHeight(h)` (R171). -/
  | setBarcodeHeight (h : Byte)
  /-- `SetBarcodeWidth(w)` (R172). -/
  | setBarcodeWidth (w : Byte)
  /-- `PrintBarcode(data,type)` (R173): the type code and the number of data bytes. -/
  | printBarcode (kind : Byte) (len : Nat)
  /-- `PrintImage(image,scale,darkness)` (R200): the dimensions in pixels and the two factors. -/
  | printImage (srcW srcH : Nat) (scale dark : Half)
  /-- `Open(ident)` (R240). -/
  | openSession (ident : Ident)
  /-- `Close` (R241). -/
  | closeSession
  /-- `Init` (R190). -/
  | initSequence
  deriving DecidableEq, Repr

end Sys2Proof
end

