-- ==== Sys2Proof/WellFormed.lean ====
section
/-! DEFINITION. Which instructions a request record can carry. Every operand but the three counts has its latch's
width by type; the counts are naturals and are checked against the widths of R21 and against `BC_MAX`. -/

namespace Sys2Proof

/-- The operands fit their latches: `BC_LEN <= BC_MAX` (R55), `SRC_W` and `SRC_H` are 16-bit (R9, R21). -/
def Instr.wellFormed : Instr → Bool
  | .reset => true
  | .setStatus _ => true
  | .setControlParameter _ _ _ => true
  | .setSleepTime _ => true
  | .setDoubleWidthOn => true
  | .setDoubleWidthOff => true
  | .setPrintDensity _ _ => true
  | .setCharacterSet _ => true
  | .setCodeTable _ => true
  | .feed => true
  | .feedN _ => true
  | .setLineSpacing _ => true
  | .setAlign _ => true
  | .setLeftBlank _ => true
  | .setBold _ => true
  | .setReverse _ => true
  | .setUpDown _ => true
  | .setUnderline _ => true
  | .setKeyPanel _ => true
  | .setBarcodeReadablePosition _ => true
  | .setBarcodeHeight _ => true
  | .setBarcodeWidth _ => true
  | .printBarcode _ len => decide (len ≤ Config.bcMax)
  | .printImage srcW srcH _ _ => decide (srcW < 65536) && decide (srcH < 65536)
  | .openSession _ => true
  | .closeSession => true
  | .initSequence => true

end Sys2Proof
end

