-- ==== Sys2Proof/Decode.lean ====
section
/-! DEFINITION. The two encodings of 30_encoding.md. The REQUEST encoding (R80, R82) is what the block decodes: a record
with an 8-bit tag. The WIRE encoding (R84) is what the block emits and never decodes itself; the opcode table's rows
are wire patterns, so this file also reads a table word as the request whose directive sends it, and cuts a wire
stream into directives as R85 and R86 say a reader of the stream can. -/

namespace Sys2Proof

open Sys2Proof.Machine (flagOn b2u)

/-! ### The request encoding -/

/-- Why a request record is no request. -/
inductive DecodeError where
  /-- The tag is one R82 does not list (R88). -/
  | reservedTag (op : Byte)
  deriving DecidableEq, Repr

/-- Request dispatch on the tag `OP`, with the operands R82 lists for it; a field R82 marks "-" is ignored. -/
def decode (r : Request) : Except DecodeError Instr :=
  match r.latches.op.toNat with
  | 0x00 => .ok .reset
  | 0x01 => .ok (.setStatus (flagOn r.latches.a0))
  | 0x02 => .ok (.setControlParameter r.latches.a0 r.latches.a1 r.latches.a2)
  | 0x03 => .ok (.setSleepTime r.latches.a0)
  | 0x04 => .ok (if flagOn r.latches.a0 then .setDoubleWidthOn else .setDoubleWidthOff)
  | 0x05 => .ok (.setPrintDensity r.latches.a0 r.latches.a1)
  | 0x06 => .ok (.setCharacterSet r.latches.a0)
  | 0x07 => .ok (.setCodeTable r.latches.a0)
  | 0x08 => .ok .feed
  | 0x09 => .ok (.feedN r.latches.a0)
  | 0x0A => .ok (.setLineSpacing r.latches.a0)
  | 0x0B => .ok (.setAlign r.latches.a0)
  | 0x0C => .ok (.setLeftBlank r.latches.a0)
  | 0x0D => .ok (.setBold (flagOn r.latches.a0))
  | 0x0E => .ok (.setReverse (flagOn r.latches.a0))
  | 0x0F => .ok (.setUpDown (flagOn r.latches.a0))
  | 0x10 => .ok (.setUnderline (flagOn r.latches.a0))
  | 0x11 => .ok (.setKeyPanel (flagOn r.latches.a0))
  | 0x12 => .ok (.setBarcodeReadablePosition r.latches.a0)
  | 0x13 => .ok (.setBarcodeHeight r.latches.a0)
  | 0x14 => .ok (.setBarcodeWidth r.latches.a0)
  | 0x15 => .ok (.printBarcode r.latches.a0 r.latches.bcLen.toNat)
  | 0x16 => .ok (.printImage r.latches.srcW.toNat r.latches.srcH.toNat r.latches.scale r.latches.dark)
  | 0x20 => .ok (.openSession r.ident)
  | 0x21 => .ok .closeSession
  | 0x22 => .ok .initSequence
  | _ => .error (.reservedTag r.latches.op)

/-- A request record with the given tag and scalars. DESIGN CHOICE (log 16): a field the request does not use is 0, an
unused identifier the empty list. -/
def scalarRequest (op a0 a1 a2 : Byte) : Request :=
  { latches := { op := op, a0 := a0, a1 := a1, a2 := a2, srcW := 0#16, srcH := 0#16, scale := 0#16, dark := 0#16,
                 bcLen := 0#8 },
    ident := [] }

/-- The PrintImage record (R82 row 0x16). -/
def imageRequest (srcW srcH scale dark : Half) : Request :=
  { latches := { op := 0x16#8, a0 := 0#8, a1 := 0#8, a2 := 0#8, srcW := srcW, srcH := srcH, scale := scale, dark := dark,
                 bcLen := 0#8 },
    ident := [] }

/-- The PrintBarcode record (R82 row 0x15). -/
def barcodeRequest (kind len : Byte) : Request :=
  { latches := { op := 0x15#8, a0 := kind, a1 := 0#8, a2 := 0#8, srcW := 0#16, srcH := 0#16, scale := 0#16,
                 dark := 0#16, bcLen := len },
    ident := [] }

/-- The request record of an instruction: its tag and its operands, placed as R82 lists them. -/
def encode : Instr → Request
  | .reset => scalarRequest 0x00#8 0#8 0#8 0#8
  | .setStatus on => scalarRequest 0x01#8 (b2u on) 0#8 0#8
  | .setControlParameter d t i => scalarRequest 0x02#8 d t i
  | .setSleepTime sec => scalarRequest 0x03#8 sec 0#8 0#8
  | .setDoubleWidthOn => scalarRequest 0x04#8 (b2u true) 0#8 0#8
  | .setDoubleWidthOff => scalarRequest 0x04#8 (b2u false) 0#8 0#8
  | .setPrintDensity density breakTime => scalarRequest 0x05#8 density breakTime 0#8
  | .setCharacterSet set => scalarRequest 0x06#8 set 0#8 0#8
  | .setCodeTable table => scalarRequest 0x07#8 table 0#8 0#8
  | .feed => scalarRequest 0x08#8 0#8 0#8 0#8
  | .feedN n => scalarRequest 0x09#8 n 0#8 0#8
  | .setLineSpacing n => scalarRequest 0x0A#8 n 0#8 0#8
  | .setAlign mode => scalarRequest 0x0B#8 mode 0#8 0#8
  | .setLeftBlank n => scalarRequest 0x0C#8 n 0#8 0#8
  | .setBold on => scalarRequest 0x0D#8 (b2u on) 0#8 0#8
  | .setReverse on => scalarRequest 0x0E#8 (b2u on) 0#8 0#8
  | .setUpDown on => scalarRequest 0x0F#8 (b2u on) 0#8 0#8
  | .setUnderline on => scalarRequest 0x10#8 (b2u on) 0#8 0#8
  | .setKeyPanel on => scalarRequest 0x11#8 (b2u on) 0#8 0#8
  | .setBarcodeReadablePosition n => scalarRequest 0x12#8 n 0#8 0#8
  | .setBarcodeHeight h => scalarRequest 0x13#8 h 0#8 0#8
  | .setBarcodeWidth w => scalarRequest 0x14#8 w 0#8 0#8
  | .printBarcode kind len => barcodeRequest kind (BitVec.ofNat 8 len)
  | .printImage srcW srcH scale dark => imageRequest (BitVec.ofNat 16 srcW) (BitVec.ofNat 16 srcH) scale dark
  | .openSession ident => { scalarRequest 0x20#8 0#8 0#8 0#8 with ident := ident }
  | .closeSession => scalarRequest 0x21#8 0#8 0#8 0#8
  | .initSequence => scalarRequest 0x22#8 0#8 0#8 0#8

/-! ### The opcode table -/

/-- How a table row goes on after its fixed bytes (R83, R86). -/
inductive Tail where
  /-- The row is complete. -/
  | fixed
  /-- Data bytes up to and with the first `0x00` (PrintBarcode). -/
  | nulTerminated
  /-- `bytesPerLine * scaledHeight` body bytes and `0x0A` (PrintImage). -/
  | raster
  /-- No wire bytes: the row is a request tag (Open, Close, Init). -/
  | request
  deriving DecidableEq, Repr

/-- One row of spec/opcode_table.json: `bytes` is `width_bits / 8`; `pattern` and `mask` are its `match` and `mask`,
read with byte 0 as the most significant byte (INDEX.md); `request` is the record whose directive sends the word. -/
structure TableRow where
  bytes   : Nat
  pattern : Nat
  mask    : Nat
  tail    : Tail
  request : Nat → Option Request

/-- Byte `k` (sent `k`-th, from 0) of an `n`-byte word that is read with byte 0 most significant. -/
def wordByte (n k w : Nat) : Byte := BitVec.ofNat 8 (w >>> (8 * (n - 1 - k)))

/-- A row of fixed length whose request has the operand `A0` in byte 2 (formats P1, P1W, DUP). -/
def rowA0 (bytes pattern mask : Nat) (op : Byte) : TableRow :=
  { bytes := bytes, pattern := pattern, mask := mask, tail := .fixed,
    request := fun w => some (scalarRequest op (wordByte bytes 2 w) 0#8 0#8) }

/-- A row with no operand byte. -/
def rowConst (bytes pattern : Nat) (op a0 : Byte) : TableRow :=
  { bytes := bytes, pattern := pattern, mask := 256 ^ bytes - 1, tail := .fixed,
    request := fun _ => some (scalarRequest op a0 0#8 0#8) }

/-- A PrintImage at the factor `scale / 256` whose header holds the two fields, if there is one: the largest source whose
scaled size does not exceed them, when it meets them (R203, R204). -/
def rasterAtScale (bpl dh scale : Nat) : Option Request :=
  let sw := min 65535 ((256 * (8 * bpl) + 255) / scale)
  let sh := min 65535 ((256 * dh + 255) / scale)
  if (sw * scale / 256 + 7) / 8 = bpl ∧ sh * scale / 256 = dh then
    some (imageRequest (BitVec.ofNat 16 sw) (BitVec.ofNat 16 sh) (BitVec.ofNat 16 scale) Config.darkDefault)
  else none

/-- The first of the factors `last - n` for which there is one, from the given `n` down to 0. -/
def rasterSearch (bpl dh last : Nat) : Nat → Option Request
  | 0 => none
  | n + 1 =>
    match rasterAtScale bpl dh (last - n) with
    | some r => some r
    | none => rasterSearch bpl dh last n

/-- A PrintImage request whose frame opens with the given header (log 15, DESIGN CHOICE): at factor 1.0 a source
`8 * bytesPerLine` pixels wide; when `SRC_W` cannot hold that, at the smallest greater factor that gives the two fields,
of the 4096 from the least one wide enough. -/
def rasterRequest (w : Nat) : Option Request :=
  let bpl := (wordByte 8 4 w).toNat + 256 * (wordByte 8 5 w).toNat
  let dh := (wordByte 8 6 w).toNat + 256 * (wordByte 8 7 w).toNat
  rasterSearch bpl dh (max 256 (bpl / 32) + 4095) 4096

/-- Table rows 1 to 11 (R84 rows 1 to 10). -/
def controlRows : List TableRow := [
  rowConst 2 0x1B40 0x00#8 0#8,
  rowA0 3 0x1B3D00 0xFFFFFE 0x01#8,
  { bytes := 5, pattern := 0x1B37000000, mask := 0xFFFF000000, tail := .fixed,
    request := fun w => some (scalarRequest 0x02#8 (wordByte 5 2 w) (wordByte 5 3 w) (wordByte 5 4 w)) },
  rowA0 4 0x1B3800FF 0xFFFF00FF 0x03#8,
  rowConst 2 0x1B0E 0x04#8 (b2u true),
  rowConst 2 0x1B14 0x04#8 (b2u false),
  { bytes := 3, pattern := 0x122300, mask := 0xFFFF00, tail := .fixed,
    -- p[4:0] is density, p[7:5] is breakTime: the one pair of intact operands (R93).
    request := fun w => some (scalarRequest 0x05#8 (wordByte 3 2 w &&& 0x1F#8) (wordByte 3 2 w >>> 5) 0#8) },
  rowA0 3 0x1B5200 0xFFFF00 0x06#8,
  rowA0 3 0x1B7400 0xFFFF00 0x07#8,
  rowConst 1 0x0A 0x08#8 0#8,
  rowA0 3 0x1B4A00 0xFFFF00 0x09#8 ]

/-- Table rows 12 to 19 (R84 rows 11 to 18). -/
def formatRows : List TableRow := [
  rowA0 3 0x1B3300 0xFFFF00 0x0A#8,
  rowA0 3 0x1B6100 0xFFFF00 0x0B#8,
  rowA0 3 0x1B4200 0xFFFFC0 0x0C#8,
  rowA0 6 0x1B20001B4500 0xFFFFFEFFFFFE 0x0D#8,
  rowA0 3 0x1D4200 0xFFFFFE 0x0E#8,
  rowA0 3 0x1B7B00 0xFFFFFE 0x0F#8,
  rowA0 3 0x1B2D00 0xFFFFFE 0x10#8,
  { bytes := 4, pattern := 0x1B633500, mask := 0xFFFFFFFE, tail := .fixed,
    request := fun w => some (scalarRequest 0x11#8 (wordByte 4 3 w) 0#8 0#8) } ]

/-- Table rows 20 to 24 (R84 rows 19 to 23). -/
def printRows : List TableRow := [
  rowA0 3 0x1D4800 0xFFFF00 0x12#8,
  rowA0 3 0x1D6800 0xFFFF00 0x13#8,
  rowA0 3 0x1D7702 0xFFFFFE 0x14#8,
  { bytes := 3, pattern := 0x1D6B00, mask := 0xFFFF00, tail := .nulTerminated,
    request := fun w => some (barcodeRequest (wordByte 3 2 w) 0#8) },
  { bytes := 8, pattern := 0x1D76300000000000, mask := 0xFFFFFFFF00000000, tail := .raster, request := rasterRequest } ]

/-- Table rows 25 to 27: request tags, no wire bytes. The row of Open holds the tag alone and no identifier (R240): the
request its word stands for carries the empty list (DESIGN CHOICE, log 28). -/
def sessionRows : List TableRow := [
  { rowConst 1 0x20 0x20#8 0#8 with tail := .request },
  { rowConst 1 0x21 0x21#8 0#8 with tail := .request },
  { rowConst 1 0x22 0x22#8 0#8 with tail := .request } ]

/-- The 24 rows of the wire (R84). -/
def wireRows : List TableRow := controlRows ++ formatRows ++ printRows

/-- The whole table. -/
def tableRows : List TableRow := wireRows ++ sessionRows

/-- `w & mask == match`, at the row's width (INDEX.md). -/
def TableRow.holds (row : TableRow) (nbits w : Nat) : Bool :=
  8 * row.bytes == nbits && (w &&& row.mask) == row.pattern

/-- The request a table word stands for (log 15). -/
def requestOfTableWord (nbits w : Nat) : Option Request :=
  (tableRows.find? (fun row => row.holds nbits w)).bind (fun row => row.request w)

/-- The instruction the decoder reads from a table word, numbered as spec/opcode_table.json numbers it: byte 0 is the
most significant byte of the `nbits`-bit number (INDEX.md). None where no row holds or the decoder refuses. -/
def decodeTableWord (nbits w : Nat) : Option Instr :=
  (requestOfTableWord nbits w).bind fun r =>
    match decode r with
    | .ok i => some i
    | .error _ => none

/-! ### Cutting a wire stream (R85, R86) -/

/-- Why a byte list does not begin with a directive's bytes. -/
inductive WireError where
  /-- No row of the table begins so (R85: no byte sequence outside the grammar is emitted). -/
  | noRow
  /-- A PrintBarcode without its terminating `0x00` (R86). -/
  | noTerminator
  /-- A raster frame without its trailer `0x0A` after the announced body (R86, R212). -/
  | noTrailer
  deriving DecidableEq, Repr

/-- A byte list as a number with its first byte most significant (INDEX.md). -/
def beNat (bs : List Byte) : Nat := bs.foldl (fun n b => n * 256 + b.toNat) 0

/-- The byte list begins with a word of the row. -/
def TableRow.opens (row : TableRow) (bs : List Byte) : Bool :=
  decide (row.bytes ≤ bs.length) && (beNat (bs.take row.bytes) &&& row.mask) == row.pattern

/-- The number of bytes of the directive a byte list begins with (R86). -/
def wireLength (bs : List Byte) : Except WireError Nat :=
  match wireRows.find? (fun row => row.opens bs) with
  | none => .error .noRow
  | some row =>
    match row.tail with
    | .fixed => .ok row.bytes
    | .nulTerminated =>
      match (bs.drop row.bytes).findIdx? (fun b => b == 0x00#8) with
      | some k => .ok (row.bytes + k + 1)
      | none => .error .noTerminator
    | .raster =>
      let w := beNat (bs.take 8)
      let bpl := (wordByte 8 4 w).toNat + 256 * (wordByte 8 5 w).toNat
      let dh := (wordByte 8 6 w).toNat + 256 * (wordByte 8 7 w).toNat
      if (bs.drop (8 + bpl * dh)).head? == some 0x0A#8 then .ok (8 + bpl * dh + 1) else .error .noTrailer
    | .request => .error .noRow

/-- Cut a byte stream into directives, at most `fuel` of them (R85). -/
def cutStream : Nat → List Byte → Except WireError (List (List Byte))
  | _, [] => .ok []
  | 0, _ :: _ => .error .noRow
  | fuel + 1, b :: bs =>
    match wireLength (b :: bs) with
    | .error e => .error e
    | .ok n =>
      match cutStream fuel ((b :: bs).drop n) with
      | .error e => .error e
      | .ok ds => .ok ((b :: bs).take n :: ds)

end Sys2Proof
end

