-- ==== Sys2Proof/Machine/Operands.lean ====
section
/-! DEFINITION. Operand assembly (30_encoding.md R90 to R98) and the byte-order helpers of R11. A raw scalar (R90) is the
latch itself; a flag (R91) is in Flags.lean. -/

namespace Sys2Proof.Machine

/-- `clampLeftBlank(n) = min(n, 47)` (R96). -/
def clampLeftBlank (n : Byte) : Byte := BitVec.ofNat 8 (min n.toNat Config.leftBlankMax)

/-- `clampBarcodeHeight(h) = max(h, 1)` (R97). -/
def clampBarcodeHeight (h : Byte) : Byte := BitVec.ofNat 8 (max h.toNat Config.bcHeightMin)

/-- `clampBarcodeWidth(w) = 2 if w <= 2, else 3` (R98). -/
def clampBarcodeWidth (w : Byte) : Byte :=
  if w.toNat ≤ Config.bcWidthLo then BitVec.ofNat 8 Config.bcWidthLo else BitVec.ofNat 8 Config.bcWidthHi

/-- `p = trunc_8((breakTime << 5) | density)` (R93): exact, then cut to the one byte; nothing is masked. -/
def packDensity (density breakTime : Byte) : Byte := BitVec.ofNat 8 ((breakTime.toNat <<< 5) ||| density.toNat)

/-- `le16(v) = [v[7:0], v[15:8]]`, low byte first (R11, R94). -/
def le16 (v : Nat) : List Byte := [BitVec.ofNat 8 v, BitVec.ofNat 8 (v >>> 8)]

/-- `be16(v) = [v[15:8], v[7:0]]`: defined by R11, used by no rule (R57, 90_conflicts.md C11). -/
def be16 (v : Nat) : List Byte := [BitVec.ofNat 8 (v >>> 8), BitVec.ofNat 8 v]

end Sys2Proof.Machine
end

