-- ==== Sys2Proof/Machine/State.lean ====
section
/-! DEFINITION. The state of the block (10_state.md R20) as plain data, with what the block's environment holds ready for
it (R33) and the event history kept to state claims (R34). -/

namespace Sys2Proof.Machine

/-- The result codes of R250, as a closed inductive (decision D26). -/
inductive ResultCode where
  | ok
  | usageError
  | notReady
  | invalidImage
  | transportUnavailable
  | transportWriteError
  | imageTooLarge
  | illegalRequest
  deriving DecidableEq, Repr

/-- `SESS`: the session state bit (R25). -/
inductive Session where
  | closed
  | opened
  deriving DecidableEq, Repr

/-- The phases of a raster frame (R24). `body y c`: row and byte column of the next byte to pack. -/
inductive RasterPhase where
  | header
  | body (y c : Nat)
  | trailer
  deriving DecidableEq, Repr

/-- `SEQ`: the sequencer position (R24). -/
inductive SeqPos where
  /-- No request in progress. -/
  | idle
  /-- About to perform item `k` of the current directive; while Open waits for `TOpen`, item 0 (log 12). -/
  | item (k : Nat)
  /-- Inside Init: step `j`, item `k` of that step's directive. -/
  | init (j k : Nat)
  /-- Inside PrintImage. -/
  | raster (phase : RasterPhase)
  deriving DecidableEq, Repr

/-- `CFG`: the 17 fields of R27, in its order; the four one-bit fields as Booleans. -/
structure Cfg where
  heatDots     : Byte
  heatTime     : Byte
  heatInterval : Byte
  sleepSeconds : Byte
  density      : Byte
  breakTime    : Byte
  charset      : Byte
  codetable    : Byte
  align        : Byte
  leftBlank    : Byte
  bold         : Bool
  reverse      : Bool
  updown       : Bool
  underline    : Bool
  bcPos        : Byte
  bcHeight     : Byte
  bcWidth      : Byte
  deriving DecidableEq, Repr

/-- Every field at its `DEF_*` (R27, R31, R35). -/
def Cfg.defaults : Cfg :=
  { heatDots := Config.defHeatDots, heatTime := Config.defHeatTime, heatInterval := Config.defHeatInterval,
    sleepSeconds := Config.defSleep, density := Config.defDensity, breakTime := Config.defBreak,
    charset := Config.defCharset, codetable := Config.defCodetable, align := Config.defAlign,
    leftBlank := Config.defLeftBlank, bold := Config.defBold, reverse := Config.defReverse,
    updown := Config.defUpdown, underline := Config.defUnderline, bcPos := Config.defBcPos,
    bcHeight := Config.defBcHeight, bcWidth := Config.defBcWidth }

/-- An external store the block reads: pairs of an address and a value, addresses strictly rising, no entry equal to
what an unlisted address reads as. `Memory 8` is a list of `Host.Cell`. -/
abbrev Memory (width : Nat) := List (Nat × BitVec width)

/-- What the Transport answers to an open or to a write (R58, R60). -/
inductive Reply where
  | ok
  | fail
  deriving DecidableEq, Repr

/-- What comes from outside between two requests (log 4, log 5): a request at the request port (R22), a change of
the contents of `IMG` or `BCD` by their owner (R302), a change of the Transport's writable level (R201). -/
inductive Input where
  | request (r : Request)
  | pixel (x y : Half) (p : Pixel)
  | barcodeByte (i b : Byte)
  | writable (level : Bool)
  deriving DecidableEq, Repr

/-- The events of R8 and R34, in the order they happen. An event that has an answer is recorded with it (log 14). -/
inductive Event where
  /-- `TOpen(ident)` and its answer (R60). -/
  | tOpen (ident : Ident) (reply : Reply)
  /-- `TClose()` (R60). -/
  | tClose
  /-- `MemWrite(TX, seg)` and its answer (R58). -/
  | write (seg : List Byte) (reply : Reply)
  /-- One wait step, ended (R270). -/
  | wait
  /-- A request's result (R26). -/
  | result (code : ResultCode)
  deriving DecidableEq, Repr

/-- The state: the block's (R20: `latches`, `seq`, `sess`, `res`, `cfg`), the environment's (R33, R34: `ident`, `img`,
`bcd`, `tWritable`, `openReplies`, `writeReplies`, `waitEnds`, `inputs`) and the event history (R34: `history`). -/
structure State where
  /-- The operand latches (R21). -/
  latches : Latches
  /-- The identifier of the last accepted request (log 11); its value before the first one is the model's (log 27). -/
  ident : Ident
  /-- `SEQ` (R24). -/
  seq : SeqPos
  /-- `SESS` (R25). -/
  sess : Session
  /-- `RES` (R26). -/
  res : ResultCode
  /-- `CFG` (R27). -/
  cfg : Cfg
  /-- `IMG` (R51). -/
  img : Memory 24
  /-- `BCD` (R55). -/
  bcd : Memory 8
  /-- `t_writable` (R201). -/
  tWritable : Bool
  /-- The answers the Transport will give to opens, next first; at the end of the list it never answers (log 2). -/
  openReplies : List Reply
  /-- The answers it will give to segment writes, next first (log 2). -/
  writeReplies : List Reply
  /-- How many waits the delay unit will report ended (log 2). -/
  waitEnds : Nat
  /-- What will come from outside between requests, next first (log 4). -/
  inputs : List Input
  /-- What has happened, oldest first (R34). -/
  history : List Event
  deriving DecidableEq, Repr

/-- Why a step stops. -/
inductive Fault where
  /-- Raised by `step` only, when the block is busy and the operation it waits for is never answered: the block has no
  step (R263, R305; U9 of 93_implementation_defined.md: `stuck`). Safe: the machine stops. -/
  | stuck
  deriving DecidableEq, Repr

/-- Why an instruction has no meaning. -/
inductive Refusal where
  /-- Raised by an arm of `exec` for an instruction not modelled yet; none is left. Safe. -/
  | notModelled (mnemonic : String)
  deriving DecidableEq, Repr

/-- All latches zero. The spec leaves them unspecified after reset (R35); DESIGN CHOICE, unsafe (log 7). -/
def Latches.zero : Latches :=
  { op := 0#8, a0 := 0#8, a1 := 0#8, a2 := 0#8, srcW := 0#16, srcH := 0#16, scale := 0#16, dark := 0#16, bcLen := 0#8 }

/-- The state after hardware reset (R35, R290): `SESS` Closed, `SEQ` Idle, `RES` OK, `CFG` at its defaults, no
Transport operation done. The environment holds nothing ready (DESIGN CHOICE, log 8). The held identifier of an Open
request, to which the spec gives no reset value, is the empty list (DESIGN CHOICE, unsafe, log 27). -/
def State.reset : State :=
  { latches := Latches.zero, ident := [], seq := .idle, sess := .closed, res := .ok, cfg := Cfg.defaults,
    img := [], bcd := [], tWritable := false, openReplies := [], writeReplies := [], waitEnds := 0, inputs := [],
    history := [] }

end Sys2Proof.Machine
end

