-- ==== Sys2Proof/Machine/Ops.lean ====
section
/-! DEFINITION. The shared operations: the external stores (20_memory.md), the end of a request (60_exceptions.md R260),
the operations the block asks of its neighbours, and the sequencer that performs a directive's item list. -/

namespace Sys2Proof.Machine

/-! ### The stores `IMG` and `BCD` -/

/-- What an address reads as. -/
def Memory.read {width : Nat} (unlisted : BitVec width) : Memory width → Nat → BitVec width
  | [], _ => unlisted
  | (b, v) :: m, a => if a = b then v else Memory.read unlisted m a

/-- Store a value, keeping the canonical form: the value an unlisted address reads as is not listed. -/
def Memory.write {width : Nat} (unlisted : BitVec width) : Memory width → Nat → BitVec width → Memory width
  | [], a, v => if v = unlisted then [] else [(a, v)]
  | (b, u) :: m, a, v =>
    if a < b then (if v = unlisted then (b, u) :: m else (a, v) :: (b, u) :: m)
    else if a = b then (if v = unlisted then m else (a, v) :: m)
    else (b, u) :: Memory.write unlisted m a v

/-- The canonical form of a list whose addresses must be at least `low`. -/
def Memory.wfFrom {width : Nat} (unlisted : BitVec width) : Nat → Memory width → Bool
  | _, [] => true
  | low, (a, v) :: m => decide (low ≤ a) && v != unlisted && Memory.wfFrom unlisted (a + 1) m

/-- The canonical form: addresses strictly rising, no entry equal to what an unlisted address reads as. -/
def Memory.wf {width : Nat} (unlisted : BitVec width) (m : Memory width) : Bool := Memory.wfFrom unlisted 0 m

/-- What a pixel nobody has stored reads as: white. The spec gives no contents; DESIGN CHOICE, unsafe (log 9). -/
def unlistedPixel : Pixel := 0xFFFFFF#24

/-- What a barcode byte nobody has stored reads as. The spec gives no contents; DESIGN CHOICE, unsafe (log 9). -/
def unlistedByte : Byte := 0x00#8

/-- The key of pixel `(x, y)`, `x < 65536` (R51; the layout is the model's, log 10). -/
def pixelKey (x y : Nat) : Nat := y * 65536 + x

/-- `MemRead(IMG, (x, y), 1)` (R52). -/
def readPixel (img : Memory 24) (x y : Nat) : Pixel := Memory.read unlistedPixel img (pixelKey x y)

/-- The image's owner stores a pixel. -/
def writePixel (img : Memory 24) (x y : Nat) (p : Pixel) : Memory 24 := Memory.write unlistedPixel img (pixelKey x y) p

/-- `MemRead(BCD, i, 1)` (R55). -/
def readBarcodeByte (bcd : Memory 8) (i : Nat) : Byte := Memory.read unlistedByte bcd i

/-- The buffer's owner stores a byte. -/
def writeBarcodeByte (bcd : Memory 8) (i : Nat) (b : Byte) : Memory 8 := Memory.write unlistedByte bcd i b

/-- `BCD[0 .. len-1]` in ascending order (R55, R173). -/
def readBarcode (bcd : Memory 8) (len : Nat) : List Byte := (List.range len).map (readBarcodeByte bcd)

/-! ### The end of a request -/

/-- The 3-bit code in `RES` (R26, R250). -/
def ResultCode.code : ResultCode → BitVec 3
  | .ok => 0#3
  | .usageError => 1#3
  | .notReady => 2#3
  | .invalidImage => 3#3
  | .transportUnavailable => 4#3
  | .transportWriteError => 5#3
  | .imageTooLarge => 6#3
  | .illegalRequest => 7#3

/-- Append an event to the history (R34). -/
def State.record (e : Event) (s : State) : State := { s with history := s.history ++ [e] }

/-- Set the sequencer position (R24). -/
def State.moveTo (p : SeqPos) (s : State) : State := { s with seq := p }

/-- Write `CFG` fields (R28). -/
def State.configure (f : Cfg → Cfg) (s : State) : State := { s with cfg := f s.cfg }

/-- A request completes: `RES` gets its code, once (R26), the block is Idle again (R22), the result is an event. -/
def State.finish (c : ResultCode) (s : State) : State :=
  { s with res := c, seq := .idle, history := s.history ++ [.result c] }

/-- `raise E` (R260), the one shared exception entry: `RES <- code(E)`, `SEQ <- Idle`, nothing further of the request.
It saves nothing, changes no mode and vectors nowhere. There is no return from it: the next request is handled
normally (R261). -/
def raise (e : ResultCode) (s : State) : State := s.finish e

/-- `return OK` (R11). -/
def complete (s : State) : State := s.finish .ok

/-! ### What the block asks of its neighbours -/

/-- One operation handed to a neighbour: an item of R13 (a segment or a wait), or the `TOpen` of Open (R60). -/
inductive Act where
  | segment (bytes : List Byte)
  | wait
  | tOpen (ident : Ident)
  deriving DecidableEq, Repr

/-- How an operation went. -/
inductive Performed where
  | done (s : State)
  | failed (e : ResultCode) (s : State)
  | unanswered

/-- Perform one operation with the next answer its neighbour gives: `Tx(seg)` (R58, R258), `Wait()` (R270), `TOpen`
(R60, R240). A failed segment counts as not sent; nothing is retried. -/
def perform (a : Act) (s : State) : Performed :=
  match a with
  | .segment bytes =>
    match s.writeReplies with
    | [] => .unanswered
    | .ok :: rest => .done (State.record (.write bytes .ok) { s with writeReplies := rest })
    | .fail :: rest => .failed .transportWriteError (State.record (.write bytes .fail) { s with writeReplies := rest })
  | .wait =>
    match s.waitEnds with
    | 0 => .unanswered
    | n + 1 => .done (State.record .wait { s with waitEnds := n })
  | .tOpen ident =>
    match s.openReplies with
    | [] => .unanswered
    | .ok :: rest => .done (State.record (.tOpen ident .ok) { s with openReplies := rest, sess := .opened })
    | .fail :: rest => .failed .transportUnavailable (State.record (.tOpen ident .fail) { s with openReplies := rest })

/-- Whether the neighbour has an answer ready for the operation. -/
def answerReady (a : Act) (s : State) : Bool :=
  match a with
  | .segment _ => !s.writeReplies.isEmpty
  | .wait => s.waitEnds != 0
  | .tOpen _ => !s.openReplies.isEmpty

/-! ### The sequencer -/

/-- One move of the sequencer: a `CFG` write, or the operation at a position of `SEQ` (R24). -/
inductive Micro where
  | write (f : Cfg → Cfg)
  | act (pos : SeqPos) (a : Act)

/-- A directive's body: its `CFG` fields, written first, and its item list (R119, R28). -/
structure Directive where
  writes : Cfg → Cfg
  acts : List Act

/-- The operations of an item list at positions `mk k`, `mk (k+1)`, …. -/
def place (mk : Nat → SeqPos) : Nat → List Act → List Micro
  | _, [] => []
  | k, a :: as => .act (mk k) a :: place mk (k + 1) as

/-- A directive issued on its own (R119): fields first, then the items at `Item(0)`, `Item(1)`, …. -/
def Directive.micros (d : Directive) : List Micro := .write d.writes :: place .item 0 d.acts

/-- The steps of Init, from step `j` on, items at `Init(j, k)` (R190, R24). -/
def placeSteps : Nat → List Directive → List Micro
  | _, [] => []
  | j, d :: ds => .write d.writes :: (place (.init j) 0 d.acts ++ placeSteps (j + 1) ds)

/-- Perform the moves in order to the end of the request (R119, R24): the first failure ends it (R258, R260); an
operation that is not answered leaves the block busy at its position (R263, R305). -/
def runMicros : List Micro → State → State
  | [], s => complete s
  | .write f :: ms, s => runMicros ms (s.configure f)
  | .act pos a :: ms, s =>
    match perform a (s.moveTo pos) with
    | .done s' => runMicros ms s'
    | .failed e s' => raise e s'
    | .unanswered => s.moveTo pos

/-- The session gate of R119 and R252, tested before anything else: `UsageError` while Closed. -/
def gated (ms : List Micro) (s : State) : Host.Outcome State Fault Refusal :=
  match s.sess with
  | .closed => .next (raise .usageError s)
  | .opened => .next (runMicros ms s)

/-- A directive under the frame of R119. -/
def runDirective (d : Directive) (s : State) : Host.Outcome State Fault Refusal := gated d.micros s

end Sys2Proof.Machine
end

