-- ==== Sys2Proof/Machine/Image.lean ====
section
/-! DEFINITION. PrintImage (44_print_image.md R200 to R215): binarizer, nearest-neighbour scaler, packer and framer. -/

namespace Sys2Proof.Machine

/-- Output dimension of a source dimension: `floor(n * scale / 256)`, exact (R203). -/
def scaledSize (n : Nat) (scale : Half) : Nat := n * scale.toNat / 256

/-- `bpl = (dw + 7) >> 3 = ceil(dw / 8)` (R204). -/
def bytesPerLine (dw : Nat) : Nat := (dw + 7) >>> 3

/-- `ink_src(x, y)`: the source pixel is pure black (R53). -/
def inkSource (img : Memory 24) (x y : Nat) : Bool := readPixel img x y == Config.black

/-- The source coordinate of an output coordinate: `floor(x * n / d)`, `n` the source and `d` the output size (R206). -/
def sourceCoord (n d x : Nat) : Nat := x * n / d

/-- `ink(x, y)` of the scaled raster (R207). -/
def ink (img : Memory 24) (sw sh dw dh x y : Nat) : Bool :=
  inkSource img (sourceCoord sw dw x) (sourceCoord sh dh y)

/-- `bit(x, y)`: ink inside the row's true width, 0 in the padding (R210). -/
def rasterBit (img : Memory 24) (sw sh dw dh x y : Nat) : Bool := decide (x < dw) && ink img sw sh dw dh x y

/-- `packbyte(y, c)`: eight pixels, bit 7 the leftmost (R210). -/
def packByte (img : Memory 24) (sw sh dw dh y c : Nat) : Byte :=
  BitVec.ofNat 8 (((List.range 8).map fun k =>
    (if rasterBit img sw sh dw dh (8 * c + k) y then 1 else 0) <<< (7 - k)).sum)

/-- Row `y`: its bytes in ascending column (R211). -/
def rasterRow (img : Memory 24) (sw sh dw dh y : Nat) : List Byte :=
  (List.range (bytesPerLine dw)).map fun c => packByte img sw sh dw dh y c

/-- The body: rows top to bottom, not separated (R211). -/
def rasterBody (img : Memory 24) (sw sh dw dh : Nat) : List Byte :=
  (List.range dh).flatMap fun y => rasterRow img sw sh dw dh y

/-- The header: `1D 76 30 00`, `bytesPerLine`, `scaledHeight`, low bytes first (R209). -/
def rasterHeader (bpl dh : Nat) : List Byte := [0x1D#8, 0x76#8, 0x30#8, 0x00#8] ++ le16 bpl ++ le16 dh

/-- The trailer, a single newline byte (R212). -/
def rasterTrailer : List Byte := [0x0A#8]

/-- The three segments of PrintImage at their positions (R212, R24); a visible Body stands at its first byte (log 13). -/
def rasterMicros (img : Memory 24) (sw sh : Nat) (scale : Half) : List Micro :=
  let dw := scaledSize sw scale
  let dh := scaledSize sh scale
  [.act (.raster .header) (.segment (rasterHeader (bytesPerLine dw) dh)),
   .act (.raster (.body 0 0)) (.segment (rasterBody img sw sh dw dh)),
   .act (.raster .trailer) (.segment rasterTrailer)]

/-- `ready = (SESS = Open) and t_writable` (R201); while Closed the level is not consulted. -/
def printReady (s : State) : Bool :=
  match s.sess with
  | .closed => false
  | .opened => s.tWritable

/-- The checks after readiness, in the order of R200 and R262: source dimensions (R202), scaled dimensions (R203),
size of the header fields (R205). -/
def imageFault (sw sh : Nat) (scale : Half) : Option ResultCode :=
  if sw = 0 ∨ sh = 0 then some .invalidImage
  else if scaledSize sw scale = 0 ∨ scaledSize sh scale = 0 then some .invalidImage
  else if bytesPerLine (scaledSize sw scale) > Config.fieldMax ∨ scaledSize sh scale > Config.fieldMax then
    some .imageTooLarge
  else none

/-- R200. The darkness factor is latched and has no effect (R214). -/
def execPrintImage (sw sh : Nat) (scale _dark : Half) (s : State) : Host.Outcome State Fault Refusal :=
  if printReady s then
    match imageFault sw sh scale with
    | some e => .next (raise e s)
    | none => .next (runMicros (rasterMicros s.img sw sh scale) s)
  else .next (raise .notReady s)

end Sys2Proof.Machine
end

