-- ==== Sys2Proof/Machine/Barcode.lean ====
section
/-! DEFINITION. The barcode directives (42_barcode_directives.md R170 to R173). Each is one segment and has no wait. -/

namespace Sys2Proof.Machine

/-- `SetBarcodeReadablePosition(n)`: `bc_pos`, `1D 48 n` (R170). -/
def setBarcodeReadablePositionDirective (n : Byte) : Directive :=
  { writes := fun c => { c with bcPos := n }, acts := [.segment [0x1D#8, 0x48#8, n]] }

/-- R170. -/
def execSetBarcodeReadablePosition (n : Byte) (s : State) : Host.Outcome State Fault Refusal :=
  runDirective (setBarcodeReadablePositionDirective n) s

/-- `SetBarcodeHeight(h)`: the clamped height is stored and sent, `1D 68 h'` (R171, R97). -/
def setBarcodeHeightDirective (h : Byte) : Directive :=
  { writes := fun c => { c with bcHeight := clampBarcodeHeight h },
    acts := [.segment [0x1D#8, 0x68#8, clampBarcodeHeight h]] }

/-- R171. -/
def execSetBarcodeHeight (h : Byte) (s : State) : Host.Outcome State Fault Refusal :=
  runDirective (setBarcodeHeightDirective h) s

/-- `SetBarcodeWidth(w)`: the clamped width is stored and sent, `1D 77 w'` (R172, R98). -/
def setBarcodeWidthDirective (w : Byte) : Directive :=
  { writes := fun c => { c with bcWidth := clampBarcodeWidth w },
    acts := [.segment [0x1D#8, 0x77#8, clampBarcodeWidth w]] }

/-- R172. -/
def execSetBarcodeWidth (w : Byte) (s : State) : Host.Outcome State Fault Refusal :=
  runDirective (setBarcodeWidthDirective w) s

/-- `PrintBarcode(data,type)`: `1D 6B type data... 00`, the data verbatim, one segment (R173). -/
def printBarcodeDirective (kind : Byte) (data : List Byte) : Directive :=
  { writes := id, acts := [.segment ([0x1D#8, 0x6B#8, kind] ++ data ++ [0x00#8])] }

/-- R173, with `data = BCD[0 .. len-1]`. -/
def execPrintBarcode (kind : Byte) (len : Nat) (s : State) : Host.Outcome State Fault Refusal :=
  runDirective (printBarcodeDirective kind (readBarcode s.bcd len)) s

end Sys2Proof.Machine
end

