-- ==== Sys2Proof/Machine/Control.lean ====
section
/-! DEFINITION. The device-control directives (40_control_directives.md R120 to R125), each a body under the frame R119. -/

namespace Sys2Proof.Machine

/-- `Reset`: `1B 40`, then a wait; no `CFG` field (R120). -/
def resetDirective : Directive := { writes := id, acts := [.segment [0x1B#8, 0x40#8], .wait] }

/-- R120. -/
def execReset (s : State) : Host.Outcome State Fault Refusal := runDirective resetDirective s

/-- `SetStatus(on)`: `1B 3D on`; no `CFG` field (R121). -/
def setStatusDirective (on : Bool) : Directive := { writes := id, acts := [.segment [0x1B#8, 0x3D#8, b2u on]] }

/-- R121. -/
def execSetStatus (on : Bool) (s : State) : Host.Outcome State Fault Refusal := runDirective (setStatusDirective on) s

/-- `SetControlParameter(d,t,i)`: the three heating fields, `1B 37 d t i` (R122). -/
def setControlParameterDirective (d t i : Byte) : Directive :=
  { writes := fun c => { c with heatDots := d, heatTime := t, heatInterval := i },
    acts := [.segment [0x1B#8, 0x37#8, d, t, i]] }

/-- R122. -/
def execSetControlParameter (d t i : Byte) (s : State) : Host.Outcome State Fault Refusal :=
  runDirective (setControlParameterDirective d t i) s

/-- `SetSleepTime(s)`: `sleep_seconds`, then `1B 38 s`, a wait, `FF` (R123, 90_conflicts.md C2). -/
def setSleepTimeDirective (sec : Byte) : Directive :=
  { writes := fun c => { c with sleepSeconds := sec },
    acts := [.segment [0x1B#8, 0x38#8, sec], .wait, .segment [0xFF#8]] }

/-- R123. -/
def execSetSleepTime (sec : Byte) (s : State) : Host.Outcome State Fault Refusal :=
  runDirective (setSleepTimeDirective sec) s

/-- `SetPrintDensity(density,breakTime)`: both fields raw, then `12 23 p` with the packed byte of R93 (R124). -/
def setPrintDensityDirective (density breakTime : Byte) : Directive :=
  { writes := fun c => { c with density := density, breakTime := breakTime },
    acts := [.segment [0x12#8, 0x23#8, packDensity density breakTime]] }

/-- R124. -/
def execSetPrintDensity (density breakTime : Byte) (s : State) : Host.Outcome State Fault Refusal :=
  runDirective (setPrintDensityDirective density breakTime) s

/-- `SetKeyPanel(on)`: `1B 63 35 on`; no `CFG` field (R125). -/
def setKeyPanelDirective (on : Bool) : Directive :=
  { writes := id, acts := [.segment [0x1B#8, 0x63#8, 0x35#8, b2u on]] }

/-- R125. -/
def execSetKeyPanel (on : Bool) (s : State) : Host.Outcome State Fault Refusal :=
  runDirective (setKeyPanelDirective on) s

end Sys2Proof.Machine
end

