-- ==== Sys2Proof/Machine/Format.lean ====
section
/-! DEFINITION. The text-formatting and paper-feed directives (41_format_directives.md R140 to R151). Each is one segment and
has no wait. -/

namespace Sys2Proof.Machine

/-- `SetDoubleWidth(on)`: the flag selects the second opcode byte (R140, R92); no `CFG` field. -/
def setDoubleWidthDirective (on : Bool) : Directive :=
  { writes := id, acts := [.segment [0x1B#8, doubleWidthOpcode on]] }

/-- R140, on. -/
def execSetDoubleWidthOn (s : State) : Host.Outcome State Fault Refusal := runDirective (setDoubleWidthDirective true) s

/-- R140, off. -/
def execSetDoubleWidthOff (s : State) : Host.Outcome State Fault Refusal :=
  runDirective (setDoubleWidthDirective false) s

/-- `SetCharacterSet(set)`: `charset`, `1B 52 set` (R141). -/
def setCharacterSetDirective (set : Byte) : Directive :=
  { writes := fun c => { c with charset := set }, acts := [.segment [0x1B#8, 0x52#8, set]] }

/-- R141. -/
def execSetCharacterSet (set : Byte) (s : State) : Host.Outcome State Fault Refusal :=
  runDirective (setCharacterSetDirective set) s

/-- `SetCodeTable(table)`: `codetable`, `1B 74 table` (R142). -/
def setCodeTableDirective (table : Byte) : Directive :=
  { writes := fun c => { c with codetable := table }, acts := [.segment [0x1B#8, 0x74#8, table]] }

/-- R142. -/
def execSetCodeTable (table : Byte) (s : State) : Host.Outcome State Fault Refusal :=
  runDirective (setCodeTableDirective table) s

/-- `Feed()`: the single byte `0A` (R143). -/
def feedDirective : Directive := { writes := id, acts := [.segment [0x0A#8]] }

/-- R143. -/
def execFeed (s : State) : Host.Outcome State Fault Refusal := runDirective feedDirective s

/-- `Feed(n)`: `1B 4A n`, also for `n = 0` (R144). -/
def feedNDirective (n : Byte) : Directive := { writes := id, acts := [.segment [0x1B#8, 0x4A#8, n]] }

/-- R144. -/
def execFeedN (n : Byte) (s : State) : Host.Outcome State Fault Refusal := runDirective (feedNDirective n) s

/-- `SetLineSpacing(n)`: `1B 33 n`; no `CFG` field (R145). -/
def setLineSpacingDirective (n : Byte) : Directive := { writes := id, acts := [.segment [0x1B#8, 0x33#8, n]] }

/-- R145. -/
def execSetLineSpacing (n : Byte) (s : State) : Host.Outcome State Fault Refusal :=
  runDirective (setLineSpacingDirective n) s

/-- `SetAlign(mode)`: `align`, `1B 61 mode` (R146). -/
def setAlignDirective (mode : Byte) : Directive :=
  { writes := fun c => { c with align := mode }, acts := [.segment [0x1B#8, 0x61#8, mode]] }

/-- R146. -/
def execSetAlign (mode : Byte) (s : State) : Host.Outcome State Fault Refusal := runDirective (setAlignDirective mode) s

/-- `SetLeftBlank(n)`: the clamped count is stored and sent, `1B 42 n'` (R147, R96). -/
def setLeftBlankDirective (n : Byte) : Directive :=
  { writes := fun c => { c with leftBlank := clampLeftBlank n },
    acts := [.segment [0x1B#8, 0x42#8, clampLeftBlank n]] }

/-- R147. -/
def execSetLeftBlank (n : Byte) (s : State) : Host.Outcome State Fault Refusal :=
  runDirective (setLeftBlankDirective n) s

/-- `SetBold(on)`: `bold`, one segment of six bytes (R148). -/
def setBoldDirective (on : Bool) : Directive :=
  { writes := fun c => { c with bold := on },
    acts := [.segment [0x1B#8, 0x20#8, b2u on, 0x1B#8, 0x45#8, b2u on]] }

/-- R148. -/
def execSetBold (on : Bool) (s : State) : Host.Outcome State Fault Refusal := runDirective (setBoldDirective on) s

/-- `SetReverse(on)`: `reverse`, `1D 42 on` (R149). -/
def setReverseDirective (on : Bool) : Directive :=
  { writes := fun c => { c with reverse := on }, acts := [.segment [0x1D#8, 0x42#8, b2u on]] }

/-- R149. -/
def execSetReverse (on : Bool) (s : State) : Host.Outcome State Fault Refusal := runDirective (setReverseDirective on) s

/-- `SetUpDown(on)`: `updown`, `1B 7B on` (R150). -/
def setUpDownDirective (on : Bool) : Directive :=
  { writes := fun c => { c with updown := on }, acts := [.segment [0x1B#8, 0x7B#8, b2u on]] }

/-- R150. -/
def execSetUpDown (on : Bool) (s : State) : Host.Outcome State Fault Refusal := runDirective (setUpDownDirective on) s

/-- `SetUnderline(on)`: `underline`, `1B 2D on` (R151). -/
def setUnderlineDirective (on : Bool) : Directive :=
  { writes := fun c => { c with underline := on }, acts := [.segment [0x1B#8, 0x2D#8, b2u on]] }

/-- R151. -/
def execSetUnderline (on : Bool) (s : State) : Host.Outcome State Fault Refusal :=
  runDirective (setUnderlineDirective on) s

end Sys2Proof.Machine
end

