-- ==== Sys2Proof/Machine/Session.lean ====
section
/-! DEFINITION. The session requests: Open and Close (45_session.md R240, R241), and Init (43_init_sequence.md R190). -/

namespace Sys2Proof.Machine

/-- Open's one operation; while it waits, `SEQ` stands at item 0 (log 12). -/
def openMicros (ident : Ident) : List Micro := [.act (.item 0) (.tOpen ident)]

/-- `Open(ident)` (R240): `UsageError` when already Open, without a `TOpen`; else `TOpen`, and `SESS` follows its
answer. -/
def execOpenSession (ident : Ident) (s : State) : Host.Outcome State Fault Refusal :=
  match s.sess with
  | .opened => .next (raise .usageError s)
  | .closed => .next (runMicros (openMicros ident) s)

/-- `Close` (R241): when Open, `TClose`, `SESS` Closed and every `CFG` field at its default; `OK` in any case. -/
def execCloseSession (s : State) : Host.Outcome State Fault Refusal :=
  match s.sess with
  | .opened => .next (complete (State.record .tClose { s with sess := .closed, cfg := Cfg.defaults }))
  | .closed => .next (complete s)

/-- The eight steps of Init, with the configuration constants as parameters (R190, R191). -/
def initSteps : List Directive := [
  resetDirective,
  setStatusDirective Config.online,
  setControlParameterDirective Config.defHeatDots Config.defHeatTime Config.defHeatInterval,
  setPrintDensityDirective Config.defDensity Config.defBreak,
  setSleepTimeDirective Config.defSleep,
  setCodeTableDirective Config.defCodetable,
  setCharacterSetDirective Config.defCharset,
  setBarcodeReadablePositionDirective Config.defBcPos ]

/-- `Init` (R190): one session test, then the steps strictly in order, ended by the first failed write. -/
def execInitSequence (s : State) : Host.Outcome State Fault Refusal := gated (placeSteps 0 initSteps) s

end Sys2Proof.Machine
end

