-- ==== Sys2Proof/Machine/Dispatch.lean ====
section
/-! DEFINITION. One arm per request (30_encoding.md R82). -/

namespace Sys2Proof.Machine

def exec (i : Instr) (s : State) : Host.Outcome State Fault Refusal :=
  match i with
  | .reset => Sys2Proof.Machine.execReset s
  | .setStatus on => Sys2Proof.Machine.execSetStatus on s
  | .setControlParameter d t iv => Sys2Proof.Machine.execSetControlParameter d t iv s
  | .setSleepTime sec => Sys2Proof.Machine.execSetSleepTime sec s
  | .setDoubleWidthOn => Sys2Proof.Machine.execSetDoubleWidthOn s
  | .setDoubleWidthOff => Sys2Proof.Machine.execSetDoubleWidthOff s
  | .setPrintDensity density breakTime => Sys2Proof.Machine.execSetPrintDensity density breakTime s
  | .setCharacterSet set => Sys2Proof.Machine.execSetCharacterSet set s
  | .setCodeTable table => Sys2Proof.Machine.execSetCodeTable table s
  | .feed => Sys2Proof.Machine.execFeed s
  | .feedN n => Sys2Proof.Machine.execFeedN n s
  | .setLineSpacing n => Sys2Proof.Machine.execSetLineSpacing n s
  | .setAlign mode => Sys2Proof.Machine.execSetAlign mode s
  | .setLeftBlank n => Sys2Proof.Machine.execSetLeftBlank n s
  | .setBold on => Sys2Proof.Machine.execSetBold on s
  | .setReverse on => Sys2Proof.Machine.execSetReverse on s
  | .setUpDown on => Sys2Proof.Machine.execSetUpDown on s
  | .setUnderline on => Sys2Proof.Machine.execSetUnderline on s
  | .setKeyPanel on => Sys2Proof.Machine.execSetKeyPanel on s
  | .setBarcodeReadablePosition n => Sys2Proof.Machine.execSetBarcodeReadablePosition n s
  | .setBarcodeHeight h => Sys2Proof.Machine.execSetBarcodeHeight h s
  | .setBarcodeWidth w => Sys2Proof.Machine.execSetBarcodeWidth w s
  | .printBarcode kind len => Sys2Proof.Machine.execPrintBarcode kind len s
  | .printImage srcW srcH scale dark => Sys2Proof.Machine.execPrintImage srcW srcH scale dark s
  | .openSession ident => Sys2Proof.Machine.execOpenSession ident s
  | .closeSession => Sys2Proof.Machine.execCloseSession s
  | .initSequence => Sys2Proof.Machine.execInitSequence s

end Sys2Proof.Machine
end

