-- ==== Sys2Proof/Machine/Wire.lean ====
section
/-! DEFINITION. The wire stream as a function of the event history (00_scope.md R13, 20_memory.md R56), and the bytes a
list of moves sends. -/

namespace Sys2Proof.Machine

/-- A byte, or the marker of a wait (R13). -/
inductive WireItem where
  | byte (b : Byte)
  | waitMark
  deriving DecidableEq, Repr

/-- What an event puts on the wire stream: the bytes of a segment answered ok, a wait marker (R13, R56). -/
def Event.onWire : Event → List WireItem
  | .write seg .ok => seg.map .byte
  | .write _ .fail => []
  | .wait => [.waitMark]
  | .tOpen _ _ => []
  | .tClose => []
  | .result _ => []

/-- The wire stream, a function of the history (R13, R34). -/
def wireStream (h : List Event) : List WireItem := h.flatMap Event.onWire

/-- The bytes of the segments of a list of moves, in order (R56). -/
def sentBytes : List Micro → List Byte
  | [] => []
  | .act _ (.segment bytes) :: ms => bytes ++ sentBytes ms
  | .act _ .wait :: ms => sentBytes ms
  | .act _ (.tOpen _) :: ms => sentBytes ms
  | .write _ :: ms => sentBytes ms

end Sys2Proof.Machine
end

