-- ==== Sys2Proof/Machine/Port.lean ====
section
/-! DEFINITION. The request port (10_state.md R22), the sequencer's standing inside a request (R24), the read-back port (R30),
and what one step does. -/

namespace Sys2Proof.Machine

/-! ### Acceptance -/

/-- The tag and all parameters are copied into the latches, atomically (R22). -/
def accept (r : Request) (s : State) : State := { s with latches := r.latches, ident := r.ident }

/-- A request of a reserved tag: no effect but `RES <- 7` (R88, R259). -/
def execIllegalRequest (s : State) : Host.Outcome State Fault Refusal := .next (raise .illegalRequest s)

/-- Accept a request, dispatch on the latched tag (R262: the tag is decoded first), execute its rule. -/
def runRequest (r : Request) (s : State) : Host.Outcome State Fault Refusal :=
  match decode r with
  | .ok i => exec i (accept r s)
  | .error _ => execIllegalRequest (accept r s)

/-! ### Inside a request -/

/-- The moves of an instruction from its first item on, once its checks have passed. -/
def microsOf (i : Instr) (s : State) : List Micro :=
  match i with
  | .reset => resetDirective.micros
  | .setStatus on => (setStatusDirective on).micros
  | .setControlParameter d t iv => (setControlParameterDirective d t iv).micros
  | .setSleepTime sec => (setSleepTimeDirective sec).micros
  | .setDoubleWidthOn => (setDoubleWidthDirective true).micros
  | .setDoubleWidthOff => (setDoubleWidthDirective false).micros
  | .setPrintDensity density breakTime => (setPrintDensityDirective density breakTime).micros
  | .setCharacterSet set => (setCharacterSetDirective set).micros
  | .setCodeTable table => (setCodeTableDirective table).micros
  | .feed => feedDirective.micros
  | .feedN n => (feedNDirective n).micros
  | .setLineSpacing n => (setLineSpacingDirective n).micros
  | .setAlign mode => (setAlignDirective mode).micros
  | .setLeftBlank n => (setLeftBlankDirective n).micros
  | .setBold on => (setBoldDirective on).micros
  | .setReverse on => (setReverseDirective on).micros
  | .setUpDown on => (setUpDownDirective on).micros
  | .setUnderline on => (setUnderlineDirective on).micros
  | .setKeyPanel on => (setKeyPanelDirective on).micros
  | .setBarcodeReadablePosition n => (setBarcodeReadablePositionDirective n).micros
  | .setBarcodeHeight h => (setBarcodeHeightDirective h).micros
  | .setBarcodeWidth w => (setBarcodeWidthDirective w).micros
  | .printBarcode kind len => (printBarcodeDirective kind (readBarcode s.bcd len)).micros
  | .printImage srcW srcH scale _ =>
    match imageFault srcW srcH scale with
    | some _ => []
    | none => rasterMicros s.img srcW srcH scale
  | .openSession ident => openMicros ident
  | .closeSession => []
  | .initSequence => placeSteps 0 initSteps

/-- Two positions stand at the same item: the packer's row and column do not tell items apart (R24, log 13). -/
def SeqPos.sameItem : SeqPos → SeqPos → Bool
  | .raster (.body _ _), .raster (.body _ _) => true
  | p, q => decide (p = q)

/-- The moves from the operation at a position on. -/
def fromPosition (p : SeqPos) : List Micro → List Micro
  | [] => []
  | .write _ :: ms => fromPosition p ms
  | .act q a :: ms => if q.sameItem p then .act q a :: ms else fromPosition p ms

/-- What is left of the latched request at the sequencer's position (R24: it never moves backwards). -/
def pendingMicros (s : State) : List Micro :=
  match decode { latches := s.latches, ident := s.ident } with
  | .ok i => fromPosition s.seq (microsOf i s)
  | .error _ => []

/-- The block is busy: when the operation it waits for has an answer it goes on from there (R24, R33); when it has
none there is no step (R263, R305, U9), log 3. -/
def resume (s : State) : Host.Outcome State Fault Refusal :=
  match pendingMicros s with
  | .act pos a :: ms => if answerReady a s then .next (runMicros (.act pos a :: ms) s) else .fault .stuck
  | _ => .fault .stuck

/-! ### One step -/

/-- An input between requests that is not a request (log 4, log 5). -/
def applyInput (input : Input) (s : State) : State :=
  match input with
  | .request _ => s
  | .pixel x y p => { s with img := writePixel s.img x.toNat y.toNat p }
  | .barcodeByte i b => { s with bcd := writeBarcodeByte s.bcd i.toNat b }
  | .writable level => { s with tWritable := level }

/-- One step: while Idle, the next input (a request is accepted and executed to completion, R22; with nothing
presented the block does nothing, R291); while busy, what is left of the request. -/
def takeStep (s : State) : Host.Outcome State Fault Refusal :=
  match s.seq with
  | .idle =>
    match s.inputs with
    | [] => .next s
    | .request r :: rest => runRequest r { s with inputs := rest }
    | input :: rest => .next (applyInput input { s with inputs := rest })
  | _ => resume s

/-- Present a table word at the request port, the block Idle, so that the next step accepts it (log 15). A word of no
row presents a reserved tag. -/
def presentTableWord (s : State) (nbits w : Nat) : State :=
  match requestOfTableWord nbits w with
  | some r => { s with seq := .idle, inputs := .request r :: s.inputs }
  | none => { s with seq := .idle, inputs := .request (scalarRequest 0xFF#8 0#8 0#8 0#8) :: s.inputs }

/-! ### The read-back port -/

/-- The fields of `CFG` by name (R27). -/
inductive CfgField where
  | heatDots | heatTime | heatInterval | sleepSeconds | density | breakTime | charset | codetable | align | leftBlank
  | bold | reverse | updown | underline | bcPos | bcHeight | bcWidth
  deriving DecidableEq, Repr

/-- A field's value, a one-bit field as 0 or 1. -/
def Cfg.get (c : Cfg) : CfgField → Byte
  | .heatDots => c.heatDots
  | .heatTime => c.heatTime
  | .heatInterval => c.heatInterval
  | .sleepSeconds => c.sleepSeconds
  | .density => c.density
  | .breakTime => c.breakTime
  | .charset => c.charset
  | .codetable => c.codetable
  | .align => c.align
  | .leftBlank => c.leftBlank
  | .bold => b2u c.bold
  | .reverse => b2u c.reverse
  | .updown => b2u c.updown
  | .underline => b2u c.underline
  | .bcPos => c.bcPos
  | .bcHeight => c.bcHeight
  | .bcWidth => c.bcWidth

/-- The read-back port: any field, whenever the block is Idle, with no side effect (R30, log 26). -/
def readBack (f : CfgField) (s : State) : Option Byte :=
  match s.seq with
  | .idle => some (s.cfg.get f)
  | _ => none

end Sys2Proof.Machine
end

