-- ==== Sys2Proof/Machine/Step.lean ====
section
/-! DEFINITION. One step of the machine. -/

namespace Sys2Proof.Machine

/-- One step (Machine/Port.lean, `takeStep`). -/
def step (s : State) : Host.Outcome State Fault Refusal := takeStep s

/-- `s` with a table word presented as the next request (Machine/Port.lean, `presentTableWord`). -/
def State.withFetchWord (s : State) (nbits w : Nat) : State := presentTableWord s nbits w

end Sys2Proof.Machine
end

