-- ==== Sys2Proof/Safety.lean ====
section
/-! DEFINITION. What counts as a good state, in the terms the claims use. -/

namespace Sys2Proof.Machine

/-- The ConfigState invariant, exactly three ranges (R29). -/
def Cfg.inRange (c : Cfg) : Prop := c.leftBlank.toNat ≤ 47 ∧ 1 ≤ c.bcHeight.toNat ∧ (c.bcWidth = 2#8 ∨ c.bcWidth = 3#8)

/-- `SESS = Closed` implies every field equals its default (R31). -/
def State.closedHoldsDefaults (s : State) : Prop := s.sess = .closed → s.cfg = Cfg.defaults

/-- Both stores are in canonical form. -/
def State.storesWf (s : State) : Prop := Memory.wf unlistedPixel s.img = true ∧ Memory.wf unlistedByte s.bcd = true

/-- The session that the history's Transport opens and closes leave (R25). -/
def sessionAfter : Session → List Event → Session
  | s, [] => s
  | _, .tOpen _ .ok :: es => sessionAfter .opened es
  | _, .tClose :: es => sessionAfter .closed es
  | s, .tOpen _ .fail :: es => sessionAfter s es
  | s, .write _ _ :: es => sessionAfter s es
  | s, .wait :: es => sessionAfter s es
  | s, .result _ :: es => sessionAfter s es

/-- The Transport is opened only while Closed, and written, waited for and closed only while Open (R58, R240, R241). -/
def transportOrdered : Session → List Event → Bool
  | _, [] => true
  | s, .tOpen _ .ok :: es => decide (s = .closed) && transportOrdered .opened es
  | s, .tOpen _ .fail :: es => decide (s = .closed) && transportOrdered s es
  | s, .tClose :: es => decide (s = .opened) && transportOrdered .closed es
  | s, .write _ _ :: es => decide (s = .opened) && transportOrdered s es
  | s, .wait :: es => decide (s = .opened) && transportOrdered s es
  | s, .result _ :: es => transportOrdered s es

/-- The history agrees with `SESS` and keeps the Transport's order. -/
def State.transportKept (s : State) : Prop :=
  sessionAfter .closed s.history = s.sess ∧ transportOrdered .closed s.history = true

/-- The latched request is one that runs in the present session: Open while Closed, anything else while Open. -/
def State.busyInSession (s : State) : Prop :=
  s.seq ≠ .idle →
    (s.sess = .closed ↔ ∃ ident, decode { latches := s.latches, ident := s.ident } = .ok (.openSession ident))

/-- While a request is in progress, the position of `SEQ` is one of the latched request's (R24). -/
def State.busyHasPosition (s : State) : Prop := s.seq ≠ .idle → pendingMicros s ≠ []

/-- The same state with more answers to come: the neighbours will still answer (R305). -/
def State.withAnswers (opens writes : List Reply) (ends : Nat) (s : State) : State :=
  { s with openReplies := s.openReplies ++ opens, writeReplies := s.writeReplies ++ writes,
           waitEnds := s.waitEnds + ends }

/-- The machine's invariant. -/
structure State.Inv (s : State) : Prop where
  cfgInRange : s.cfg.inRange
  closedHoldsDefaults : s.closedHoldsDefaults
  storesWf : s.storesWf
  transportKept : s.transportKept
  busyInSession : s.busyInSession
  busyHasPosition : s.busyHasPosition

end Sys2Proof.Machine
end

