-- ==== Sys2Proof/Certificates/Slice0/Obligations.lean ====
section
/-! DEFINITION. The statements for the provers, and the few shapes they share. -/

open Sys2Proof Sys2Proof.Machine

namespace Sys2Proof.Statements

/-- A request ends with a code and no other effect: `RES`, Idle, and the result event. -/
def ended (c : ResultCode) (s : State) : State :=
  { s with res := c, seq := .idle, history := s.history ++ [.result c] }

/-- The directive `i` writes `CFG` by `writes` and then sends the one segment `seg s`: refused while Closed; done when
the write is answered ok; ended with its fields kept when the write fails. -/
def OneSegment (i : Instr) (writes : Cfg → Cfg) (seg : State → List Byte) : Prop :=
  ∀ s : State,
    (s.sess = .closed → exec i s = .next (ended .usageError s)) ∧
    (∀ ws, s.sess = .opened → s.writeReplies = .ok :: ws →
      exec i s = .next { s with cfg := writes s.cfg, writeReplies := ws, res := .ok, seq := .idle,
                                history := s.history ++ [.write (seg s) .ok, .result .ok] }) ∧
    (∀ ws, s.sess = .opened → s.writeReplies = .fail :: ws →
      exec i s = .next { s with cfg := writes s.cfg, writeReplies := ws, res := .transportWriteError, seq := .idle,
                                history := s.history ++ [.write (seg s) .fail, .result .transportWriteError] })

/-- The tag `op` is dispatched to `i A0`, a one-segment directive with a raw 8-bit parameter. -/
def ByteDirective (op : Byte) (i : Byte → Instr) (writes : Byte → Cfg → Cfg) (seg : Byte → List Byte) : Prop :=
  (∀ r : Request, r.latches.op = op → decode r = .ok (i r.latches.a0)) ∧
  ∀ n, OneSegment (i n) (writes n) (fun _ => seg n)

/-- The tag `op` is dispatched to `i (A0 ≠ 0)`, a one-segment directive with a flag, sent as `01` or `00`. -/
def FlagDirective (op : Byte) (i : Bool → Instr) (writes : Bool → Cfg → Cfg) (seg : Byte → List Byte) : Prop :=
  (∀ r : Request, r.latches.op = op → decode r = .ok (i (decide (r.latches.a0 ≠ 0#8)))) ∧
  ∀ on, OneSegment (i on) (writes on) (fun _ => seg (if on then 0x01#8 else 0x00#8))

/-- Bytes on the wire. -/
def onWire (bs : List Byte) : List WireItem := bs.map .byte

/-- The nine segments of Init (R192), by the number of their write. -/
def initSegments : List (List Byte) := [
  [0x1B#8, 0x40#8],
  [0x1B#8, 0x3D#8, 0x01#8],
  [0x1B#8, 0x37#8, Config.defHeatDots, Config.defHeatTime, Config.defHeatInterval],
  [0x12#8, 0x23#8, BitVec.ofNat 8 ((Config.defBreak.toNat <<< 5) ||| Config.defDensity.toNat)],
  [0x1B#8, 0x38#8, Config.defSleep],
  [0xFF#8],
  [0x1B#8, 0x74#8, Config.defCodetable],
  [0x1B#8, 0x52#8, Config.defCharset],
  [0x1D#8, 0x48#8, Config.defBcPos] ]

/-- The segment of write number `n`. -/
def initSegment (n : Nat) : List Byte := initSegments.getD n []

/-- A wait follows the write of Reset (number 0) and the first of SetSleepTime (number 4) (R192). -/
def initWaitAfter {α : Type} (wait : α) (n : Nat) : List α := if n = 0 ∨ n = 4 then [wait] else []

/-- What Init has put on the wire before write number `n`: the segments before it, each with the wait that follows it. -/
def initWireBefore (n : Nat) : List WireItem :=
  (List.range n).flatMap fun k => onWire (initSegment k) ++ initWaitAfter .waitMark k

/-- The events of Init before write number `n`. -/
def initEventsBefore (n : Nat) : List Event :=
  (List.range n).flatMap fun k => .write (initSegment k) .ok :: initWaitAfter .wait k

/-- How many waits lie before write number `n`. -/
def initWaitsBefore (n : Nat) : Nat := if n = 0 then 0 else if n ≤ 4 then 1 else 2

/-- `CFG` when Init is at write number `n`: the fields of the steps up to that write's own are at their defaults, those of
later steps, and the eight Init never writes, are as they were (R190, R191, R28). -/
def initFieldsAt (n : Nat) (c : Cfg) : Cfg :=
  { c with
    heatDots := if 2 ≤ n then Config.defHeatDots else c.heatDots
    heatTime := if 2 ≤ n then Config.defHeatTime else c.heatTime
    heatInterval := if 2 ≤ n then Config.defHeatInterval else c.heatInterval
    density := if 3 ≤ n then Config.defDensity else c.density
    breakTime := if 3 ≤ n then Config.defBreak else c.breakTime
    sleepSeconds := if 4 ≤ n then Config.defSleep else c.sleepSeconds
    codetable := if 6 ≤ n then Config.defCodetable else c.codetable
    charset := if 7 ≤ n then Config.defCharset else c.charset
    bcPos := if 8 ≤ n then Config.defBcPos else c.bcPos }

/-- The position `Init(j, k)` of write number `n`: step and item (R24). SetSleepTime is step 4 and has two writes. -/
def initPosition (n : Nat) : SeqPos :=
  if n ≤ 4 then .init n 0 else if n = 5 then .init 4 2 else .init (n - 1) 0

/-- The fields of `CFG` an instruction may write (R27, R190, R241). -/
def fieldsWritten : Instr → List CfgField
  | .setControlParameter _ _ _ => [.heatDots, .heatTime, .heatInterval]
  | .setSleepTime _ => [.sleepSeconds]
  | .setPrintDensity _ _ => [.density, .breakTime]
  | .setCharacterSet _ => [.charset]
  | .setCodeTable _ => [.codetable]
  | .setAlign _ => [.align]
  | .setLeftBlank _ => [.leftBlank]
  | .setBold _ => [.bold]
  | .setReverse _ => [.reverse]
  | .setUpDown _ => [.updown]
  | .setUnderline _ => [.underline]
  | .setBarcodeReadablePosition _ => [.bcPos]
  | .setBarcodeHeight _ => [.bcHeight]
  | .setBarcodeWidth _ => [.bcWidth]
  | .initSequence =>
    [.heatDots, .heatTime, .heatInterval, .density, .breakTime, .sleepSeconds, .codetable, .charset, .bcPos]
  | .closeSession =>
    [.heatDots, .heatTime, .heatInterval, .sleepSeconds, .density, .breakTime, .charset, .codetable, .align, .leftBlank,
     .bold, .reverse, .updown, .underline, .bcPos, .bcHeight, .bcWidth]
  | .reset | .setStatus _ | .setDoubleWidthOn | .setDoubleWidthOff | .feed | .feedN _ | .setLineSpacing _
  | .setKeyPanel _ | .printBarcode _ _ | .printImage _ _ _ _ | .openSession _ => []

/-- The `CFG` fields a directive writes before its first item (R28); Init's first step is Reset, which has none. -/
def fieldsFirst (i : Instr) (c : Cfg) : Cfg :=
  match i with
  | .setControlParameter d t iv => { c with heatDots := d, heatTime := t, heatInterval := iv }
  | .setSleepTime sec => { c with sleepSeconds := sec }
  | .setPrintDensity density breakTime => { c with density := density, breakTime := breakTime }
  | .setCharacterSet set => { c with charset := set }
  | .setCodeTable table => { c with codetable := table }
  | .setAlign mode => { c with align := mode }
  | .setLeftBlank n => { c with leftBlank := BitVec.ofNat 8 (min n.toNat 47) }
  | .setBold on => { c with bold := on }
  | .setReverse on => { c with reverse := on }
  | .setUpDown on => { c with updown := on }
  | .setUnderline on => { c with underline := on }
  | .setBarcodeReadablePosition n => { c with bcPos := n }
  | .setBarcodeHeight h => { c with bcHeight := BitVec.ofNat 8 (max h.toNat 1) }
  | .setBarcodeWidth w => { c with bcWidth := if w.toNat ≤ 2 then 2#8 else 3#8 }
  | .reset | .setStatus _ | .setDoubleWidthOn | .setDoubleWidthOff | .feed | .feedN _ | .setLineSpacing _
  | .setKeyPanel _ | .printBarcode _ _ | .printImage _ _ _ _ | .openSession _ | .closeSession | .initSequence => c

/-- `i` in `s` is a directive with wire bytes that a reader of the stream can find the end of: a barcode's data holds no
`0x00` (R307), an image passes its checks. -/
def sendsReadableBytes (i : Instr) (s : State) : Prop :=
  match i with
  | .openSession _ | .closeSession | .initSequence => False
  | .printBarcode _ len => ∀ j, j < len → readBarcodeByte s.bcd j ≠ 0x00#8
  | .printImage srcW srcH scale _ => imageFault srcW srcH scale = none
  | _ => True

/-- The bytes of one directive on the wire. -/
def IsDirectiveBytes (bs : List Byte) : Prop := ∃ i s, sendsReadableBytes i s ∧ bs = sentBytes (microsOf i s)

/-- The table gives the row all its bytes. -/
def fixedLength : Instr → Bool
  | .printBarcode _ _ | .printImage _ _ _ _ | .openSession _ | .closeSession | .initSequence => false
  | _ => true

/-- The operands as the sent bytes carry them: clamped (R95), and the two parts of the density byte (R93). -/
def asSent : Instr → Instr
  | .setPrintDensity density breakTime =>
    .setPrintDensity (BitVec.ofNat 8 (((breakTime.toNat <<< 5) ||| density.toNat) % 32))
      (BitVec.ofNat 8 (((breakTime.toNat <<< 5) ||| density.toNat) / 32 % 8))
  | .setLeftBlank n => .setLeftBlank (BitVec.ofNat 8 (min n.toNat 47))
  | .setBarcodeHeight h => .setBarcodeHeight (BitVec.ofNat 8 (max h.toNat 1))
  | .setBarcodeWidth w => .setBarcodeWidth (if w.toNat ≤ 2 then 2#8 else 3#8)
  | i => i

end Sys2Proof.Statements

open Sys2Proof.Statements

/-! ### Reset and the invariant -/

/-- R35: what hardware reset leaves. (Of the latches R35 gives no value; see LatchesAreUnreadBeforeAcceptance.) -/
def Obligations.ResetLeavesTheBlockClosedAndIdle : Prop :=
  State.reset.sess = .closed ∧ State.reset.seq = .idle ∧ State.reset.res = .ok ∧ State.reset.res.code = 0#3 ∧
  State.reset.cfg =
    { heatDots := Config.defHeatDots, heatTime := Config.defHeatTime, heatInterval := Config.defHeatInterval,
      sleepSeconds := Config.defSleep, density := Config.defDensity, breakTime := Config.defBreak,
      charset := Config.defCharset, codetable := Config.defCodetable, align := Config.defAlign,
      leftBlank := Config.defLeftBlank, bold := Config.defBold, reverse := Config.defReverse,
      updown := Config.defUpdown, underline := Config.defUnderline, bcPos := Config.defBcPos,
      bcHeight := Config.defBcHeight, bcWidth := Config.defBcWidth } ∧
  State.reset.history = []

/-- R35 (the spec's inference from R22): no rule reads the latches before acceptance has written them, so the values the
model gives them at reset (log 7) reach nothing. -/
def Obligations.LatchesAreUnreadBeforeAcceptance : Prop :=
  ∀ (s : State) (l : Latches) (d : Ident) (r : Request) (rest : List Input),
    s.seq = .idle → s.inputs = .request r :: rest → step { s with latches := l, ident := d } = step s

/-- The invariant of Safety.lean holds after reset (it also says the model's empty stores are canonical, log 9). -/
def Obligations.ResetMeetsTheInvariant : Prop := State.reset.Inv

/-- Every step keeps the invariant: the three ranges of R29, defaults while Closed (R31), canonical stores, the
Transport opened, written, waited for and closed only in its order (R58), `SEQ` at an item of the latched request. -/
def Obligations.EveryStepKeepsTheInvariant : Prop :=
  ∀ s t : State, s.Inv → step s = .next t → t.Inv

/-! ### Requests and steps -/

/-- R80, R82: the record of a well-formed instruction is dispatched to it, with every operand. -/
def Obligations.DecodeInvertsEncode : Prop :=
  ∀ i : Instr, i.wellFormed = true → decode (encode i) = .ok i

/-- R259: a reserved tag (R82 lists 00..16 and 20..22) has no effect but `RES <- 7`, and only such a tag is refused. -/
def Obligations.ReservedTagsAreIllegalRequests : Prop :=
  (∀ r : Request,
    ((0x16 < r.latches.op.toNat ∧ r.latches.op.toNat < 0x20) ∨ 0x22 < r.latches.op.toNat) ↔
      decode r = .error (.reservedTag r.latches.op)) ∧
  ∀ (s : State) (r : Request) (rest : List Input),
    ((0x16 < r.latches.op.toNat ∧ r.latches.op.toNat < 0x20) ∨ 0x22 < r.latches.op.toNat) →
    s.seq = .idle → s.inputs = .request r :: rest →
    step s = .next (ended .illegalRequest { s with latches := r.latches, ident := r.ident, inputs := rest }) ∧
    ResultCode.illegalRequest.code = 7#3

/-- R22, R291: an Idle block accepts the presented request, all of it at once, and executes it; with nothing presented
it does nothing (log 23). -/
def Obligations.StepRunsTheDecodedRequest : Prop :=
  (∀ (s : State) (r : Request) (rest : List Input) (i : Instr),
    s.seq = .idle → s.inputs = .request r :: rest → decode r = .ok i →
    step s = exec i { s with latches := r.latches, ident := r.ident, inputs := rest }) ∧
  ∀ s : State, s.seq = .idle → s.inputs = [] → step s = .next s

/-- R24, R263, R305 (log 3): a busy block goes on from its position when the operation it waits for is answered, and
has no step when it is not. -/
def Obligations.BusyBlockGoesOnOnlyWhenAnswered : Prop :=
  ∀ (s : State) (pos : SeqPos) (a : Act) (ms : List Micro),
    s.seq ≠ .idle → pendingMicros s = .act pos a :: ms →
    (answerReady a s = true → step s = .next (runMicros (.act pos a :: ms) s)) ∧
    (answerReady a s = false → step s = .fault .stuck)

/-- R22: while a request is in progress nothing is accepted, and nothing outside the request changes. -/
def Obligations.BusyBlockAcceptsNothing : Prop :=
  ∀ s t : State, s.seq ≠ .idle → step s = .next t →
    t.latches = s.latches ∧ t.ident = s.ident ∧ t.inputs = s.inputs ∧ t.img = s.img ∧ t.bcd = s.bcd ∧
    t.tWritable = s.tWritable

/-- R24, R305: a request left busy for want of an answer, and gone on with when answers come, ends as if they had been
there from the start; and while the wanted answer is still missing, nothing has happened (log 2, log 3). -/
def Obligations.LateAnswersChangeNothing : Prop :=
  ∀ (i : Instr) (s t : State) (opens writes : List Reply) (ends : Nat),
    decode { latches := s.latches, ident := s.ident } = .ok i →
    exec i s = .next t → t.seq ≠ .idle →
    (∀ u, step (t.withAnswers opens writes ends) = .next u → exec i (s.withAnswers opens writes ends) = .next u) ∧
    (step (t.withAnswers opens writes ends) = .fault .stuck →
      exec i (s.withAnswers opens writes ends) = .next (t.withAnswers opens writes ends))

/-- R250, R260: no request traps or is refused; each leaves a next state, with an error code or without. -/
def Obligations.EveryRequestLeavesANextState : Prop :=
  ∀ (i : Instr) (s : State), ∃ t, exec i s = .next t

/-- Between requests the owner of a store changes one pixel or one byte of it, and the Transport's level changes; all
else is kept (R302, R201; log 4, log 5). -/
def Obligations.InputsChangeWhatTheyName : Prop :=
  (∀ (s : State) (x y : Half) (p : Pixel) (rest : List Input),
    s.Inv → s.seq = .idle → s.inputs = .pixel x y p :: rest →
    ∃ img, step s = .next { s with inputs := rest, img := img } ∧
      ∀ x' y', x' < 65536 → y' < 65536 →
        readPixel img x' y' = if x' = x.toNat ∧ y' = y.toNat then p else readPixel s.img x' y') ∧
  (∀ (s : State) (i b : Byte) (rest : List Input),
    s.Inv → s.seq = .idle → s.inputs = .barcodeByte i b :: rest →
    ∃ bcd, step s = .next { s with inputs := rest, bcd := bcd } ∧
      ∀ j, readBarcodeByte bcd j = if j = i.toNat then b else readBarcodeByte s.bcd j) ∧
  ∀ (s : State) (level : Bool) (rest : List Input),
    s.seq = .idle → s.inputs = .writable level :: rest → step s = .next { s with inputs := rest, tWritable := level }

/-- R30: whenever the block is Idle any field can be read back, a one-bit field as 0 or 1; while it is busy none can
(log 26); while Closed the defaults are read (R265). -/
def Obligations.ReadBackPortReadsTheFields : Prop :=
  (∀ s : State, s.seq = .idle →
    readBack .heatDots s = some s.cfg.heatDots ∧ readBack .heatTime s = some s.cfg.heatTime ∧
    readBack .heatInterval s = some s.cfg.heatInterval ∧ readBack .sleepSeconds s = some s.cfg.sleepSeconds ∧
    readBack .density s = some s.cfg.density ∧ readBack .breakTime s = some s.cfg.breakTime ∧
    readBack .charset s = some s.cfg.charset ∧ readBack .codetable s = some s.cfg.codetable ∧
    readBack .align s = some s.cfg.align ∧ readBack .leftBlank s = some s.cfg.leftBlank ∧
    readBack .bold s = some (if s.cfg.bold then 1#8 else 0#8) ∧
    readBack .reverse s = some (if s.cfg.reverse then 1#8 else 0#8) ∧
    readBack .updown s = some (if s.cfg.updown then 1#8 else 0#8) ∧
    readBack .underline s = some (if s.cfg.underline then 1#8 else 0#8) ∧
    readBack .bcPos s = some s.cfg.bcPos ∧ readBack .bcHeight s = some s.cfg.bcHeight ∧
    readBack .bcWidth s = some s.cfg.bcWidth) ∧
  (∀ (f : CfgField) (s : State), s.seq ≠ .idle → readBack f s = none) ∧
  ∀ (f : CfgField) (s : State), s.Inv → s.seq = .idle → s.sess = .closed → readBack f s = some (Cfg.defaults.get f)

/-! ### Device control (40_control_directives.md) -/

/-- R121, R125: SetStatus sends `1B 3D on`, SetKeyPanel `1B 63 35 on`; neither has a `CFG` field. -/
def Obligations.StatusAndKeyPanelSendTheirFlag : Prop :=
  FlagDirective 0x01#8 .setStatus (fun _ => id) (fun on => [0x1B#8, 0x3D#8, on]) ∧
  FlagDirective 0x11#8 .setKeyPanel (fun _ => id) (fun on => [0x1B#8, 0x63#8, 0x35#8, on])

/-- R122: SetControlParameter writes the three heating fields and sends `1B 37 d t i`. -/
def Obligations.ControlParameterSetsTheHeating : Prop :=
  (∀ r : Request, r.latches.op = 0x02#8 →
    decode r = .ok (.setControlParameter r.latches.a0 r.latches.a1 r.latches.a2)) ∧
  ∀ d t i : Byte,
    OneSegment (.setControlParameter d t i) (fun c => { c with heatDots := d, heatTime := t, heatInterval := i })
      (fun _ => [0x1B#8, 0x37#8, d, t, i])

/-- R124: SetPrintDensity keeps both values raw and sends `12 23 p`, `p = trunc_8((breakTime << 5) | density)`. -/
def Obligations.PrintDensitySendsThePackedByte : Prop :=
  (∀ r : Request, r.latches.op = 0x05#8 → decode r = .ok (.setPrintDensity r.latches.a0 r.latches.a1)) ∧
  ∀ density breakTime : Byte,
    OneSegment (.setPrintDensity density breakTime) (fun c => { c with density := density, breakTime := breakTime })
      (fun _ => [0x12#8, 0x23#8, BitVec.ofNat 8 (((breakTime.toNat <<< 5) ||| density.toNat) % 256)])

/-- R93: the packed byte written out. Its bits 7:5 are `breakTime[2:0] | density[7:5]`, its bits 4:0 `density[4:0]`;
it carries both values intact exactly when `density <= 31` and `breakTime <= 7`. -/
def Obligations.PackedDensityByteByItsBits : Prop :=
  ∀ density breakTime : Byte,
    (packDensity density breakTime).toNat = (breakTime.toNat * 32 ||| density.toNat) % 256 ∧
    (packDensity density breakTime).extractLsb' 5 3 = (breakTime.extractLsb' 0 3 ||| density.extractLsb' 5 3) ∧
    (packDensity density breakTime).extractLsb' 0 5 = density.extractLsb' 0 5 ∧
    (((packDensity density breakTime).extractLsb' 0 5).setWidth 8 = density ∧
      ((packDensity density breakTime).extractLsb' 5 3).setWidth 8 = breakTime ↔
      density.toNat ≤ 31 ∧ breakTime.toNat ≤ 7)

/-- R120: Reset sends `1B 40` and then waits; it changes no `CFG` field. A failed write skips the wait. -/
def Obligations.ResetSendsTwoBytesAndWaits : Prop :=
  (∀ r : Request, r.latches.op = 0x00#8 → decode r = .ok .reset) ∧
  ∀ s : State,
    (s.sess = .closed → exec .reset s = .next (ended .usageError s)) ∧
    (∀ ws n, s.sess = .opened → s.writeReplies = .ok :: ws → s.waitEnds = n + 1 →
      exec .reset s = .next { s with writeReplies := ws, waitEnds := n, res := .ok, seq := .idle,
                                     history := s.history ++ [.write [0x1B#8, 0x40#8] .ok, .wait, .result .ok] }) ∧
    (∀ ws, s.sess = .opened → s.writeReplies = .fail :: ws →
      exec .reset s = .next { s with writeReplies := ws, res := .transportWriteError, seq := .idle,
                                     history := s.history ++
                                       [.write [0x1B#8, 0x40#8] .fail, .result .transportWriteError] })

/-- R123: SetSleepTime writes `sleep_seconds`, sends `1B 38 s`, waits, sends `FF`. When the first write fails neither
the wait nor `FF` follows; when the second fails the device has `1B 38 s` without its trailer. -/
def Obligations.SleepTimeSendsItsTrailerAfterAWait : Prop :=
  (∀ r : Request, r.latches.op = 0x03#8 → decode r = .ok (.setSleepTime r.latches.a0)) ∧
  ∀ (sec : Byte) (s : State),
    (s.sess = .closed → exec (.setSleepTime sec) s = .next (ended .usageError s)) ∧
    (∀ ws n, s.sess = .opened → s.writeReplies = .ok :: .ok :: ws → s.waitEnds = n + 1 →
      exec (.setSleepTime sec) s =
        .next { s with cfg := { s.cfg with sleepSeconds := sec }, writeReplies := ws, waitEnds := n, res := .ok,
                       seq := .idle,
                       history := s.history ++
                         [.write [0x1B#8, 0x38#8, sec] .ok, .wait, .write [0xFF#8] .ok, .result .ok] }) ∧
    (∀ ws, s.sess = .opened → s.writeReplies = .fail :: ws →
      exec (.setSleepTime sec) s =
        .next { s with cfg := { s.cfg with sleepSeconds := sec }, writeReplies := ws, res := .transportWriteError,
                       seq := .idle,
                       history := s.history ++
                         [.write [0x1B#8, 0x38#8, sec] .fail, .result .transportWriteError] }) ∧
    (∀ ws n, s.sess = .opened → s.writeReplies = .ok :: .fail :: ws → s.waitEnds = n + 1 →
      exec (.setSleepTime sec) s =
        .next { s with cfg := { s.cfg with sleepSeconds := sec }, writeReplies := ws, waitEnds := n,
                       res := .transportWriteError, seq := .idle,
                       history := s.history ++
                         [.write [0x1B#8, 0x38#8, sec] .ok, .wait, .write [0xFF#8] .fail,
                          .result .transportWriteError] })

/-- An operation that is not answered leaves the block at its item, with the directive's `CFG` fields already written (R28)
and the earlier items done: the first write of any directive but PrintImage and of Init, the wait of Reset, the wait and
the second write of SetSleepTime (Init's later items: InitWaitsAtItsUnansweredItem). Saying "not answered"
by an empty list of answers is the model's choice (log 2). -/
def Obligations.UnansweredOperationLeavesTheBlockAtIt : Prop :=
  (∀ (i : Instr) (s : State),
    (∀ sw sh scale dark, i ≠ .printImage sw sh scale dark) → (∀ ident, i ≠ .openSession ident) → i ≠ .closeSession →
    s.sess = .opened → s.writeReplies = [] →
    exec i s = .next { s with cfg := fieldsFirst i s.cfg,
                              seq := if i = .initSequence then .init 0 0 else .item 0 }) ∧
  (∀ (s : State) (ws : List Reply), s.sess = .opened → s.writeReplies = .ok :: ws → s.waitEnds = 0 →
    exec .reset s = .next { s with writeReplies := ws, seq := .item 1,
                                   history := s.history ++ [.write [0x1B#8, 0x40#8] .ok] }) ∧
  (∀ (sec : Byte) (s : State) (ws : List Reply), s.sess = .opened → s.writeReplies = .ok :: ws → s.waitEnds = 0 →
    exec (.setSleepTime sec) s =
      .next { s with cfg := { s.cfg with sleepSeconds := sec }, writeReplies := ws, seq := .item 1,
                     history := s.history ++ [.write [0x1B#8, 0x38#8, sec] .ok] }) ∧
  ∀ (sec : Byte) (s : State) (n : Nat), s.sess = .opened → s.writeReplies = [.ok] → s.waitEnds = n + 1 →
    exec (.setSleepTime sec) s =
      .next { s with cfg := { s.cfg with sleepSeconds := sec }, writeReplies := [], waitEnds := n, seq := .item 2,
                     history := s.history ++ [.write [0x1B#8, 0x38#8, sec] .ok, .wait] }

/-! ### Formatting and feed (41_format_directives.md) -/

/-- R140, R92: the flag of SetDoubleWidth selects the second opcode byte, `0E` or `14`; no `CFG` field. -/
def Obligations.DoubleWidthSelectsItsOpcode : Prop :=
  (∀ r : Request, r.latches.op = 0x04#8 →
    decode r = .ok (if r.latches.a0 ≠ 0#8 then .setDoubleWidthOn else .setDoubleWidthOff)) ∧
  OneSegment .setDoubleWidthOn id (fun _ => [0x1B#8, 0x0E#8]) ∧
  OneSegment .setDoubleWidthOff id (fun _ => [0x1B#8, 0x14#8])

/-- R141, R142, R146, R170: the four raw device codes are stored and sent, every code 0..255 passed through. -/
def Obligations.RawCodesAreStoredAndSent : Prop :=
  ByteDirective 0x06#8 .setCharacterSet (fun n c => { c with charset := n }) (fun n => [0x1B#8, 0x52#8, n]) ∧
  ByteDirective 0x07#8 .setCodeTable (fun n c => { c with codetable := n }) (fun n => [0x1B#8, 0x74#8, n]) ∧
  ByteDirective 0x0B#8 .setAlign (fun n c => { c with align := n }) (fun n => [0x1B#8, 0x61#8, n]) ∧
  ByteDirective 0x12#8 .setBarcodeReadablePosition (fun n c => { c with bcPos := n }) (fun n => [0x1D#8, 0x48#8, n])

/-- R143, R144, R145: Feed() sends `0A`; Feed(n), also Feed(0), sends `1B 4A n`; SetLineSpacing sends `1B 33 n`; none has
a `CFG` field. -/
def Obligations.FeedAndLineSpacing : Prop :=
  (∀ r : Request, r.latches.op = 0x08#8 → decode r = .ok .feed) ∧
  OneSegment .feed id (fun _ => [0x0A#8]) ∧
  ByteDirective 0x09#8 .feedN (fun _ => id) (fun n => [0x1B#8, 0x4A#8, n]) ∧
  ByteDirective 0x0A#8 .setLineSpacing (fun _ => id) (fun n => [0x1B#8, 0x33#8, n])

/-- R147, R96: SetLeftBlank clamps first, to at most 47; the clamped value is stored and sent. -/
def Obligations.LeftBlankIsClampedToFortySeven : Prop :=
  (∀ n : Byte, (clampLeftBlank n).toNat = min n.toNat 47 ∧ (47 ≤ n.toNat → clampLeftBlank n = 47#8) ∧
    (n.toNat < 47 → clampLeftBlank n = n)) ∧
  ByteDirective 0x0C#8 .setLeftBlank (fun n c => { c with leftBlank := BitVec.ofNat 8 (min n.toNat 47) })
    (fun n => [0x1B#8, 0x42#8, BitVec.ofNat 8 (min n.toNat 47)])

/-- R148 to R151: the four emphasis flags are stored and sent; SetBold sends both of its commands in one segment. -/
def Obligations.EmphasisFlagsAreStoredAndSent : Prop :=
  FlagDirective 0x0D#8 .setBold (fun on c => { c with bold := on })
    (fun on => [0x1B#8, 0x20#8, on, 0x1B#8, 0x45#8, on]) ∧
  FlagDirective 0x0E#8 .setReverse (fun on c => { c with reverse := on }) (fun on => [0x1D#8, 0x42#8, on]) ∧
  FlagDirective 0x0F#8 .setUpDown (fun on c => { c with updown := on }) (fun on => [0x1B#8, 0x7B#8, on]) ∧
  FlagDirective 0x10#8 .setUnderline (fun on c => { c with underline := on }) (fun on => [0x1B#8, 0x2D#8, on])

/-! ### Barcode (42_barcode_directives.md) -/

/-- R171, R172, R97, R98: the barcode height is at least 1 and the width 2 or 3, clamped before they are stored and
sent. -/
def Obligations.BarcodeSizesAreClamped : Prop :=
  (∀ h : Byte, (clampBarcodeHeight h).toNat = max h.toNat 1 ∧ (h.toNat ≤ 1 → clampBarcodeHeight h = 1#8) ∧
    (1 < h.toNat → clampBarcodeHeight h = h)) ∧
  (∀ w : Byte, (w.toNat ≤ 2 → clampBarcodeWidth w = 2#8) ∧ (3 ≤ w.toNat → clampBarcodeWidth w = 3#8)) ∧
  ByteDirective 0x13#8 .setBarcodeHeight (fun h c => { c with bcHeight := BitVec.ofNat 8 (max h.toNat 1) })
    (fun h => [0x1D#8, 0x68#8, BitVec.ofNat 8 (max h.toNat 1)]) ∧
  ByteDirective 0x14#8 .setBarcodeWidth (fun w c => { c with bcWidth := if w.toNat ≤ 2 then 2#8 else 3#8 })
    (fun w => [0x1D#8, 0x77#8, if w.toNat ≤ 2 then 2#8 else 3#8])

/-- R173: PrintBarcode sends `1D 6B type`, the `BC_LEN` bytes of `BCD` verbatim in ascending order, and one `00`, in one
segment of `L + 4` bytes; it has no `CFG` field. -/
def Obligations.PrintBarcodeSendsItsDataVerbatim : Prop :=
  (∀ r : Request, r.latches.op = 0x15#8 →
    decode r = .ok (.printBarcode r.latches.a0 r.latches.bcLen.toNat)) ∧
  (∀ (kind : Byte) (len : Nat),
    OneSegment (.printBarcode kind len) id
      (fun s => 0x1D#8 :: 0x6B#8 :: kind :: ((List.range len).map (fun j => readBarcodeByte s.bcd j) ++ [0x00#8]))) ∧
  ∀ (kind : Byte) (len : Nat) (s : State), (sentBytes (microsOf (.printBarcode kind len) s)).length = len + 4

/-! ### Init (43_init_sequence.md) -/

/-- R190, R191, R192: while Closed Init is refused; when every write is answered ok and both waits end it sends exactly
its nine segments and two waits, with the configuration constants, and leaves nine fields at their defaults and the
other eight as they were. -/
def Obligations.InitSendsItsNineSegments : Prop :=
  (∀ r : Request, r.latches.op = 0x22#8 → decode r = .ok .initSequence) ∧
  ∀ s : State,
    (s.sess = .closed → exec .initSequence s = .next (ended .usageError s)) ∧
    ∀ ws n, s.sess = .opened → s.writeReplies = List.replicate 9 .ok ++ ws → s.waitEnds = n + 2 →
      exec .initSequence s =
        .next { s with
          cfg := { s.cfg with
            heatDots := Config.defHeatDots, heatTime := Config.defHeatTime, heatInterval := Config.defHeatInterval,
            density := Config.defDensity, breakTime := Config.defBreak, sleepSeconds := Config.defSleep,
            codetable := Config.defCodetable, charset := Config.defCharset, bcPos := Config.defBcPos },
          writeReplies := ws, waitEnds := n, res := .ok, seq := .idle,
          history := s.history ++ [
            .write [0x1B#8, 0x40#8] .ok,
            .wait,
            .write [0x1B#8, 0x3D#8, 0x01#8] .ok,
            .write [0x1B#8, 0x37#8, Config.defHeatDots, Config.defHeatTime, Config.defHeatInterval] .ok,
            .write [0x12#8, 0x23#8,
              BitVec.ofNat 8 (((Config.defBreak.toNat <<< 5) ||| Config.defDensity.toNat) % 256)] .ok,
            .write [0x1B#8, 0x38#8, Config.defSleep] .ok,
            .wait,
            .write [0xFF#8] .ok,
            .write [0x1B#8, 0x74#8, Config.defCodetable] .ok,
            .write [0x1B#8, 0x52#8, Config.defCharset] .ok,
            .write [0x1D#8, 0x48#8, Config.defBcPos] .ok,
            .result .ok] }

/-- R190, R258: when the write number `n` of Init fails (counted from 0), the first `n` segments have been sent with their
waits and nothing follows; the fields of the steps reached, the failed write's own among them, are at their defaults and
those of later steps are kept; Init ends with TransportWriteError, the session Open. The whole next state is given. -/
def Obligations.InitStopsAtTheFirstFailedWrite : Prop :=
  ∀ (s : State) (n m : Nat) (ws : List Reply),
    s.sess = .opened → n < 9 → s.writeReplies = List.replicate n .ok ++ .fail :: ws →
    s.waitEnds = m + initWaitsBefore n →
    ∃ t, exec .initSequence s = .next t ∧
      t = { s with
        cfg := initFieldsAt n s.cfg, writeReplies := ws, waitEnds := m, res := .transportWriteError, seq := .idle,
        history := s.history ++ initEventsBefore n ++
          [.write (initSegment n) .fail, .result .transportWriteError] } ∧
      wireStream t.history = wireStream s.history ++ initWireBefore n

/-- An operation of Init that is not answered leaves the block at it, at `Init(j, k)`, with the items before it done and
the fields of the steps 0 to `j` written (R24, R28, R190): write number `n`, and each of the two waits. Saying "not
answered" by an empty list of answers, or by no wait end, is the model's choice (log 2). -/
def Obligations.InitWaitsAtItsUnansweredItem : Prop :=
  (∀ (s : State) (n m : Nat),
    s.sess = .opened → n < 9 → s.writeReplies = List.replicate n .ok → s.waitEnds = m + initWaitsBefore n →
    exec .initSequence s =
      .next { s with cfg := initFieldsAt n s.cfg, writeReplies := [], waitEnds := m, seq := initPosition n,
                     history := s.history ++ initEventsBefore n }) ∧
  (∀ (s : State) (ws : List Reply),
    s.sess = .opened → s.writeReplies = .ok :: ws → s.waitEnds = 0 →
    exec .initSequence s =
      .next { s with writeReplies := ws, seq := .init 0 1,
                     history := s.history ++ [.write [0x1B#8, 0x40#8] .ok] }) ∧
  ∀ (s : State) (ws : List Reply),
    s.sess = .opened → s.writeReplies = List.replicate 5 .ok ++ ws → s.waitEnds = 1 →
    exec .initSequence s =
      .next { s with cfg := initFieldsAt 4 s.cfg, writeReplies := ws, waitEnds := 0, seq := .init 4 1,
                     history := s.history ++ initEventsBefore 4 ++ [.write [0x1B#8, 0x38#8, Config.defSleep] .ok] }

/-! ### PrintImage (44_print_image.md) -/

/-- R253, R254, R257, R262: PrintImage's checks, in their order; each that fails ends the request with its code and no
other effect. -/
def Obligations.PrintImageChecksInOrder : Prop :=
  (∀ r : Request, r.latches.op = 0x16#8 →
    decode r = .ok (.printImage r.latches.srcW.toNat r.latches.srcH.toNat r.latches.scale r.latches.dark)) ∧
  ∀ (sw sh : Nat) (scale dark : Half) (s : State),
    (s.sess = .closed ∨ s.tWritable = false →
      exec (.printImage sw sh scale dark) s = .next (ended .notReady s)) ∧
    (s.sess = .opened → s.tWritable = true → sw = 0 ∨ sh = 0 →
      exec (.printImage sw sh scale dark) s = .next (ended .invalidImage s)) ∧
    (s.sess = .opened → s.tWritable = true → sw * scale.toNat / 256 = 0 ∨ sh * scale.toNat / 256 = 0 →
      exec (.printImage sw sh scale dark) s = .next (ended .invalidImage s)) ∧
    (s.sess = .opened → s.tWritable = true → sw * scale.toNat / 256 ≠ 0 → sh * scale.toNat / 256 ≠ 0 →
      65535 < (sw * scale.toNat / 256 + 7) / 8 ∨ 65535 < sh * scale.toNat / 256 →
      exec (.printImage sw sh scale dark) s = .next (ended .imageTooLarge s))

/-- R209, R212: an image that passes its checks is sent as header, body and trailer, three segments and no wait; a failed
header ends it, a failed body keeps the trailer back; nothing but `RES` is written (R200). -/
def Obligations.PrintImageSendsHeaderBodyTrailer : Prop :=
  ∀ (sw sh dw dh bpl : Nat) (scale dark : Half) (s : State) (ws : List Reply) (header body : List Byte),
    s.sess = .opened → s.tWritable = true →
    dw = sw * scale.toNat / 256 → dh = sh * scale.toNat / 256 → bpl = (dw + 7) / 8 →
    0 < dw → 0 < dh → bpl ≤ 65535 → dh ≤ 65535 →
    header = [0x1D#8, 0x76#8, 0x30#8, 0x00#8, BitVec.ofNat 8 (bpl % 256), BitVec.ofNat 8 (bpl / 256),
              BitVec.ofNat 8 (dh % 256), BitVec.ofNat 8 (dh / 256)] →
    body = rasterBody s.img sw sh dw dh →
    body.length = bpl * dh ∧
    (s.writeReplies = .ok :: .ok :: .ok :: ws →
      exec (.printImage sw sh scale dark) s =
        .next { s with writeReplies := ws, res := .ok, seq := .idle,
                       history := s.history ++
                         [.write header .ok, .write body .ok, .write [0x0A#8] .ok, .result .ok] }) ∧
    (s.writeReplies = .fail :: ws →
      exec (.printImage sw sh scale dark) s =
        .next { s with writeReplies := ws, res := .transportWriteError, seq := .idle,
                       history := s.history ++ [.write header .fail, .result .transportWriteError] }) ∧
    (s.writeReplies = .ok :: .fail :: ws →
      exec (.printImage sw sh scale dark) s =
        .next { s with writeReplies := ws, res := .transportWriteError, seq := .idle,
                       history := s.history ++
                         [.write header .ok, .write body .fail, .result .transportWriteError] }) ∧
    (s.writeReplies = .ok :: .ok :: .fail :: ws →
      exec (.printImage sw sh scale dark) s =
        .next { s with writeReplies := ws, res := .transportWriteError, seq := .idle,
                       history := s.history ++
                         [.write header .ok, .write body .ok, .write [0x0A#8] .fail,
                          .result .transportWriteError] })

/-- A write of PrintImage that is not answered leaves the block at its segment, the header, the body or the trailer, with
the earlier ones sent. That a waiting Body stands at row 0, column 0 is the model's choice (log 13), and so is saying
"never answered" by an empty list of answers (log 2). -/
def Obligations.PrintImageWaitsAtItsSegment : Prop :=
  ∀ (sw sh : Nat) (scale dark : Half) (s : State) (header body : List Byte),
    s.sess = .opened → s.tWritable = true → imageFault sw sh scale = none →
    header = rasterHeader (bytesPerLine (scaledSize sw scale)) (scaledSize sh scale) →
    body = rasterBody s.img sw sh (scaledSize sw scale) (scaledSize sh scale) →
    (s.writeReplies = [] →
      exec (.printImage sw sh scale dark) s = .next { s with seq := .raster .header }) ∧
    (s.writeReplies = [.ok] →
      exec (.printImage sw sh scale dark) s =
        .next { s with writeReplies := [], seq := .raster (.body 0 0), history := s.history ++ [.write header .ok] }) ∧
    (s.writeReplies = [.ok, .ok] →
      exec (.printImage sw sh scale dark) s =
        .next { s with writeReplies := [], seq := .raster .trailer,
                       history := s.history ++ [.write header .ok, .write body .ok] })

/-- R206, R207, R210, R211: bit `7 - x % 8` of body byte `y * bpl + x / 8` is 1 exactly when column `x` is inside the row's
true width and the source pixel `(floor(x * sw / dw), floor(y * sh / dh))` is pure black. -/
def Obligations.RasterBodyBitIsTheSourcePixel : Prop :=
  ∀ (img : Memory 24) (sw sh dw dh x y : Nat), y < dh → x < 8 * ((dw + 7) / 8) →
    ((rasterBody img sw sh dw dh)[y * ((dw + 7) / 8) + x / 8]?).map (fun b => b.getLsbD (7 - x % 8)) =
      some (decide (x < dw) && decide (readPixel img (x * sw / dw) (y * sh / dh) = 0x000000#24))

/-- R203, R204: the scaled size is `floor(n * scale / 256)`, the identity at factor 1.0, the double at 2.0, zero at 0,
below 2^24 always; `bpl` is the least number of bytes that holds `dw` bits. -/
def Obligations.ScaledSizesAndLineLength : Prop :=
  (∀ (n : Nat) (scale : Half), n < 65536 →
    scaledSize n scale ≤ 16776704 ∧
    scaledSize n scale * 256 ≤ n * scale.toNat ∧ n * scale.toNat < (scaledSize n scale + 1) * 256) ∧
  (∀ n : Nat, scaledSize n 0x0100#16 = n ∧ scaledSize n 0x0200#16 = 2 * n ∧ scaledSize n 0x0000#16 = 0) ∧
  ∀ dw : Nat, dw ≤ 8 * bytesPerLine dw ∧ 8 * bytesPerLine dw < dw + 8 ∧ (1 ≤ dw → 1 ≤ bytesPerLine dw)

/-- R206: every read is inside the image; the map is the identity at equal sizes, and an integer factor `f` turns each
source column into `f` columns. -/
def Obligations.EveryPixelReadIsInsideTheImage : Prop :=
  (∀ n d x : Nat, 0 < n → x < d → sourceCoord n d x < n) ∧
  (∀ n x : Nat, x < n → sourceCoord n n x = x) ∧
  ∀ n f x : Nat, 0 < f → x < n * f → sourceCoord n (n * f) x = x / f

/-- R51, R53: of the image, PrintImage sees only which pixels of the stated rectangle are pure black. -/
def Obligations.OnlyInkInsideTheImageMatters : Prop :=
  ∀ (sw sh : Nat) (scale dark : Half) (s t : State) (img : Memory 24),
    (∀ x y, x < sw → y < sh → (readPixel img x y = 0x000000#24 ↔ readPixel s.img x y = 0x000000#24)) →
    exec (.printImage sw sh scale dark) s = .next t →
    exec (.printImage sw sh scale dark) { s with img := img } = .next { t with img := img }

/-- R214: no output and no state depends on the darkness factor. -/
def Obligations.DarknessHasNoEffect : Prop :=
  ∀ (sw sh : Nat) (scale dark dark' : Half) (s : State),
    exec (.printImage sw sh scale dark) s = exec (.printImage sw sh scale dark') s

/-! ### Session (45_session.md) -/

/-- R240: Open while Open is a usage error without a `TOpen`; while Closed it opens the Transport, and the session follows
the answer; `CFG` is not written. -/
def Obligations.OpenFollowsTheTransportsAnswer : Prop :=
  (∀ r : Request, r.latches.op = 0x20#8 → decode r = .ok (.openSession r.ident)) ∧
  ∀ (ident : Ident) (s : State),
    (s.sess = .opened → exec (.openSession ident) s = .next (ended .usageError s)) ∧
    (∀ os, s.sess = .closed → s.openReplies = .ok :: os →
      exec (.openSession ident) s =
        .next { s with sess := .opened, openReplies := os, res := .ok, seq := .idle,
                       history := s.history ++ [.tOpen ident .ok, .result .ok] }) ∧
    (∀ os, s.sess = .closed → s.openReplies = .fail :: os →
      exec (.openSession ident) s =
        .next { s with openReplies := os, res := .transportUnavailable, seq := .idle,
                       history := s.history ++ [.tOpen ident .fail, .result .transportUnavailable] })

/-- While `TOpen` is not answered Open is in progress and nothing has changed; that `SEQ` then stands at item 0 is the
model's choice (log 12), and so is saying "never answered" by an empty list of answers (log 2). -/
def Obligations.OpenWaitsForItsAnswer : Prop :=
  ∀ (ident : Ident) (s : State), s.sess = .closed → s.openReplies = [] →
    exec (.openSession ident) s = .next { s with seq := .item 0 }

/-- R241: Close while Open performs `TClose`, closes the session and puts every `CFG` field at its default; while Closed it
does nothing and reports OK. -/
def Obligations.CloseReleasesTheTransportOnce : Prop :=
  (∀ r : Request, r.latches.op = 0x21#8 → decode r = .ok .closeSession) ∧
  ∀ s : State,
    (s.sess = .opened →
      exec .closeSession s =
        .next { s with
          sess := .closed,
          cfg :=
            { heatDots := Config.defHeatDots, heatTime := Config.defHeatTime, heatInterval := Config.defHeatInterval,
              sleepSeconds := Config.defSleep, density := Config.defDensity, breakTime := Config.defBreak,
              charset := Config.defCharset, codetable := Config.defCodetable, align := Config.defAlign,
              leftBlank := Config.defLeftBlank, bold := Config.defBold, reverse := Config.defReverse,
              updown := Config.defUpdown, underline := Config.defUnderline, bcPos := Config.defBcPos,
              bcHeight := Config.defBcHeight, bcWidth := Config.defBcWidth },
          res := .ok, seq := .idle, history := s.history ++ [.tClose, .result .ok] }) ∧
    (s.sess = .closed → exec .closeSession s = .next (ended .ok s))

/-! ### Errors and the session gate (60_exceptions.md) -/

/-- R250: the numbers of the eight result codes. -/
def Obligations.ResultCodesAreNumbered : Prop :=
  ∀ c : ResultCode,
    (c.code = 0#3 ↔ c = .ok) ∧ (c.code = 1#3 ↔ c = .usageError) ∧ (c.code = 2#3 ↔ c = .notReady) ∧
    (c.code = 3#3 ↔ c = .invalidImage) ∧ (c.code = 4#3 ↔ c = .transportUnavailable) ∧
    (c.code = 5#3 ↔ c = .transportWriteError) ∧ (c.code = 6#3 ↔ c = .imageTooLarge) ∧
    (c.code = 7#3 ↔ c = .illegalRequest)

/-- R252: the session gate. Every directive but PrintImage, and Init, is a usage error while Closed, with no other effect;
none of them is one while Open, whatever else holds; Open is one exactly while Open; Close never is. -/
def Obligations.SessionGate : Prop :=
  (∀ (i : Instr) (s : State),
    (∀ sw sh scale dark, i ≠ .printImage sw sh scale dark) → (∀ ident, i ≠ .openSession ident) → i ≠ .closeSession →
    (s.sess = .closed → exec i s = .next (ended .usageError s)) ∧
    (s.sess = .opened → ∀ t es, exec i s = .next t → t.history = s.history ++ es → .result .usageError ∉ es)) ∧
  (∀ (ident : Ident) (s : State),
    (s.sess = .opened → exec (.openSession ident) s = .next (ended .usageError s)) ∧
    (s.sess = .closed → ∀ t es, exec (.openSession ident) s = .next t → t.history = s.history ++ es →
      .result .usageError ∉ es)) ∧
  ∀ s t : State, exec .closeSession s = .next t → t.res = .ok

/-- R260: the errors found before the first write change nothing but `RES`; a refused `TOpen` has besides consumed the
Transport's answer. -/
def Obligations.ErrorsBeforeTheFirstWriteArePrecise : Prop :=
  ∀ (i : Instr) (s t : State) (es : List Event) (c : ResultCode),
    exec i s = .next t → t.history = s.history ++ es ++ [.result c] →
    (c = .usageError ∨ c = .notReady ∨ c = .invalidImage ∨ c = .imageTooLarge → t = ended c s) ∧
    (c = .transportUnavailable →
      ∃ ident os, i = .openSession ident ∧ s.openReplies = .fail :: os ∧
        t = { s with openReplies := os, res := .transportUnavailable, seq := .idle,
                     history := s.history ++ [.tOpen ident .fail, .result .transportUnavailable] })

/-- R258: nothing of a request follows its first failed write but the result TransportWriteError; the session stays Open
and the block is Idle. And TransportWriteError is reported only after a failed write. -/
def Obligations.FirstFailedWriteEndsTheRequest : Prop :=
  ∀ (i : Instr) (s t : State) (es : List Event), exec i s = .next t → t.history = s.history ++ es →
    (∀ before seg after, es = before ++ .write seg .fail :: after →
      after = [.result .transportWriteError] ∧ t.res = .transportWriteError ∧ t.seq = .idle ∧
      s.sess = .opened ∧ t.sess = .opened) ∧
    (.result .transportWriteError ∈ es → ∃ seg, .write seg .fail ∈ es)

/-- R26: `RES` is written once per request, at its completion; a request still in progress has not written it. -/
def Obligations.ResultIsWrittenOnceAtCompletion : Prop :=
  ∀ (i : Instr) (s t : State), exec i s = .next t →
    (t.seq = .idle → ∃ es, t.history = s.history ++ es ++ [.result t.res] ∧ ∀ c, .result c ∉ es) ∧
    (t.seq ≠ .idle → t.res = s.res ∧ ∃ es, t.history = s.history ++ es ∧ ∀ c, .result c ∉ es)

/-! ### Rules about the whole machine -/

/-- R27, R28: a field of `CFG` is changed by its own directive, Init and Close, and by nothing else. -/
def Obligations.CfgFieldsHaveTheirOwnWriters : Prop :=
  ∀ (i : Instr) (s t : State) (f : CfgField), exec i s = .next t → f ∉ fieldsWritten i → t.cfg.get f = s.cfg.get f

/-- R30, R102: what a request does to the outside, and its result, depends on its parameters, the stores it reads and the
neighbours' answers alone; not on `CFG`, on earlier requests, or on what the latches held. -/
def Obligations.OutputDependsOnParametersAlone : Prop :=
  ∀ (i : Instr) (s s' t t' : State),
    s.sess = s'.sess → s.img = s'.img → s.bcd = s'.bcd → s.tWritable = s'.tWritable →
    s.openReplies = s'.openReplies → s.writeReplies = s'.writeReplies → s.waitEnds = s'.waitEnds →
    exec i s = .next t → exec i s' = .next t' →
    (∃ es, t.history = s.history ++ es ∧ t'.history = s'.history ++ es) ∧ t.seq = t'.seq ∧ t.sess = t'.sess ∧
    t.openReplies = t'.openReplies ∧ t.writeReplies = t'.writeReplies ∧ t.waitEnds = t'.waitEnds ∧
    (t.seq = .idle → t.res = t'.res)

/-- The frame every request has (R20, R32): the latches, the stores byte for byte and pixel for pixel, the writable level
and what is still to be presented are unchanged; the session changes only by Open and Close. -/
def Obligations.FrameOfEveryRequest : Prop :=
  ∀ (i : Instr) (s t : State), exec i s = .next t →
    t.latches = s.latches ∧ t.ident = s.ident ∧ t.tWritable = s.tWritable ∧ t.inputs = s.inputs ∧
    (∀ x y, readPixel t.img x y = readPixel s.img x y) ∧
    (∀ j, readBarcodeByte t.bcd j = readBarcodeByte s.bcd j) ∧
    ((∀ ident, i ≠ .openSession ident) → i ≠ .closeSession → t.sess = s.sess) ∧
    ((∀ ident, i ≠ .openSession ident) → t.openReplies = s.openReplies)

/-- R58, R252: a segment is written, and a wait handed out, only while the session is Open. -/
def Obligations.TransportIsWrittenOnlyWhileOpen : Prop :=
  ∀ (i : Instr) (s t : State) (es : List Event), exec i s = .next t → t.history = s.history ++ es →
    (∃ seg reply, .write seg reply ∈ es) ∨ .wait ∈ es → s.sess = .opened

/-- R270: a wait occurs only in Reset and in SetSleepTime, and so in Init; no other request has one. -/
def Obligations.WaitsOccurOnlyInThreeRequests : Prop :=
  ∀ (i : Instr) (s t : State) (es : List Event), exec i s = .next t → t.history = s.history ++ es → .wait ∈ es →
    i = .reset ∨ (∃ sec, i = .setSleepTime sec) ∨ i = .initSequence

/-- R63: events are only ever added, in order, so the wire stream of a run is extended and never changed. -/
def Obligations.RunsOnlyExtendTheHistory : Prop :=
  ∀ (k : Nat) (s t : State), Host.Core.run core k s = .next t →
    ∃ es, t.history = s.history ++ es ∧ wireStream t.history = wireStream s.history ++ wireStream es

/-! ### The wire encoding (30_encoding.md) -/

/-- The table's words, read byte 0 first, are the requests they belong to (words written out from the table of R84). That a
word stands for a request is the model's reading (log 15), and so is the empty identifier in the Open of word 20 (log 28). -/
def Obligations.TableWordsStandForTheirRequests : Prop :=
  decodeTableWord 16 0x1B40 = some .reset ∧
  decodeTableWord 24 0x1B3D01 = some (.setStatus true) ∧
  decodeTableWord 40 0x1B37075002 = some (.setControlParameter 7#8 80#8 2#8) ∧
  decodeTableWord 32 0x1B380AFF = some (.setSleepTime 10#8) ∧
  decodeTableWord 16 0x1B0E = some .setDoubleWidthOn ∧
  decodeTableWord 24 0x12234A = some (.setPrintDensity 10#8 2#8) ∧
  decodeTableWord 8 0x0A = some .feed ∧
  decodeTableWord 48 0x1B20011B4501 = some (.setBold true) ∧
  decodeTableWord 24 0x1D6B04 = some (.printBarcode 4#8 0) ∧
  decodeTableWord 64 0x1D76300002000100 = some (.printImage 16 1 0x0100#16 0x0100#16) ∧
  decodeTableWord 8 0x20 = some (.openSession []) ∧
  decodeTableWord 16 0x1B41 = none

/-- The bytes a directive of fixed length sends (R84, packed by R93, clamped by R95) are a word of its own table row, and
the model's reading of that word (log 15, DESIGN CHOICE: the block itself never decodes the wire, R88) is the directive
with its operands as sent, a density byte read as the pair below 32 and 8. -/
def Obligations.SentBytesReadBackThroughTheTable : Prop :=
  ∀ (i : Instr) (s : State), fixedLength i = true →
    decodeTableWord (8 * (sentBytes (microsOf i s)).length) (beNat (sentBytes (microsOf i s))) = some (asSent i)

/-- R85: the wire grammar is prefix-free: no byte list begins with words of two rows. -/
def Obligations.WireGrammarHasOneRowForEachStart : Prop :=
  ∀ bs : List Byte, (wireRows.filter (fun row => row.opens bs)).length ≤ 1

/-- R85, R86: a stream of directives is cut back into exactly those directives from the table alone, as long as no barcode
data holds `00` (R307). -/
def Obligations.WireStreamCutsBackIntoDirectives : Prop :=
  ∀ ds : List (List Byte), (∀ d ∈ ds, IsDirectiveBytes d) → cutStream ds.length ds.flatten = .ok ds
end

