-- ==== Sys2Proof/Laws/State.lean ====
section
/-! SUPPORT. One lemma per field for each update of the state, so that no proof unfolds a record update. -/

namespace Sys2Proof.Machine

/-! ### `record` -/

@[simp] theorem State.record_latches (e : Event) (s : State) : (s.record e).latches = s.latches := rfl
@[simp] theorem State.record_ident (e : Event) (s : State) : (s.record e).ident = s.ident := rfl
@[simp] theorem State.record_seq (e : Event) (s : State) : (s.record e).seq = s.seq := rfl
@[simp] theorem State.record_sess (e : Event) (s : State) : (s.record e).sess = s.sess := rfl
@[simp] theorem State.record_res (e : Event) (s : State) : (s.record e).res = s.res := rfl
@[simp] theorem State.record_cfg (e : Event) (s : State) : (s.record e).cfg = s.cfg := rfl
@[simp] theorem State.record_img (e : Event) (s : State) : (s.record e).img = s.img := rfl
@[simp] theorem State.record_bcd (e : Event) (s : State) : (s.record e).bcd = s.bcd := rfl
@[simp] theorem State.record_tWritable (e : Event) (s : State) : (s.record e).tWritable = s.tWritable := rfl
@[simp] theorem State.record_openReplies (e : Event) (s : State) : (s.record e).openReplies = s.openReplies := rfl
@[simp] theorem State.record_writeReplies (e : Event) (s : State) : (s.record e).writeReplies = s.writeReplies := rfl
@[simp] theorem State.record_waitEnds (e : Event) (s : State) : (s.record e).waitEnds = s.waitEnds := rfl
@[simp] theorem State.record_inputs (e : Event) (s : State) : (s.record e).inputs = s.inputs := rfl
@[simp] theorem State.record_history (e : Event) (s : State) : (s.record e).history = s.history ++ [e] := rfl

/-! ### `moveTo` -/

@[simp] theorem State.moveTo_latches (p : SeqPos) (s : State) : (s.moveTo p).latches = s.latches := rfl
@[simp] theorem State.moveTo_ident (p : SeqPos) (s : State) : (s.moveTo p).ident = s.ident := rfl
@[simp] theorem State.moveTo_seq (p : SeqPos) (s : State) : (s.moveTo p).seq = p := rfl
@[simp] theorem State.moveTo_sess (p : SeqPos) (s : State) : (s.moveTo p).sess = s.sess := rfl
@[simp] theorem State.moveTo_res (p : SeqPos) (s : State) : (s.moveTo p).res = s.res := rfl
@[simp] theorem State.moveTo_cfg (p : SeqPos) (s : State) : (s.moveTo p).cfg = s.cfg := rfl
@[simp] theorem State.moveTo_img (p : SeqPos) (s : State) : (s.moveTo p).img = s.img := rfl
@[simp] theorem State.moveTo_bcd (p : SeqPos) (s : State) : (s.moveTo p).bcd = s.bcd := rfl
@[simp] theorem State.moveTo_tWritable (p : SeqPos) (s : State) : (s.moveTo p).tWritable = s.tWritable := rfl
@[simp] theorem State.moveTo_openReplies (p : SeqPos) (s : State) : (s.moveTo p).openReplies = s.openReplies := rfl
@[simp] theorem State.moveTo_writeReplies (p : SeqPos) (s : State) : (s.moveTo p).writeReplies = s.writeReplies := rfl
@[simp] theorem State.moveTo_waitEnds (p : SeqPos) (s : State) : (s.moveTo p).waitEnds = s.waitEnds := rfl
@[simp] theorem State.moveTo_inputs (p : SeqPos) (s : State) : (s.moveTo p).inputs = s.inputs := rfl
@[simp] theorem State.moveTo_history (p : SeqPos) (s : State) : (s.moveTo p).history = s.history := rfl

/-! ### `configure` -/

@[simp] theorem State.configure_latches (f : Cfg → Cfg) (s : State) : (s.configure f).latches = s.latches := rfl
@[simp] theorem State.configure_ident (f : Cfg → Cfg) (s : State) : (s.configure f).ident = s.ident := rfl
@[simp] theorem State.configure_seq (f : Cfg → Cfg) (s : State) : (s.configure f).seq = s.seq := rfl
@[simp] theorem State.configure_sess (f : Cfg → Cfg) (s : State) : (s.configure f).sess = s.sess := rfl
@[simp] theorem State.configure_res (f : Cfg → Cfg) (s : State) : (s.configure f).res = s.res := rfl
@[simp] theorem State.configure_cfg (f : Cfg → Cfg) (s : State) : (s.configure f).cfg = f s.cfg := rfl
@[simp] theorem State.configure_img (f : Cfg → Cfg) (s : State) : (s.configure f).img = s.img := rfl
@[simp] theorem State.configure_bcd (f : Cfg → Cfg) (s : State) : (s.configure f).bcd = s.bcd := rfl
@[simp] theorem State.configure_tWritable (f : Cfg → Cfg) (s : State) : (s.configure f).tWritable = s.tWritable := rfl
@[simp] theorem State.configure_openReplies (f : Cfg → Cfg) (s : State) : (s.configure f).openReplies = s.openReplies := rfl
@[simp] theorem State.configure_writeReplies (f : Cfg → Cfg) (s : State) : (s.configure f).writeReplies = s.writeReplies := rfl
@[simp] theorem State.configure_waitEnds (f : Cfg → Cfg) (s : State) : (s.configure f).waitEnds = s.waitEnds := rfl
@[simp] theorem State.configure_inputs (f : Cfg → Cfg) (s : State) : (s.configure f).inputs = s.inputs := rfl
@[simp] theorem State.configure_history (f : Cfg → Cfg) (s : State) : (s.configure f).history = s.history := rfl

/-! ### `finish` -/

@[simp] theorem State.finish_latches (c : ResultCode) (s : State) : (s.finish c).latches = s.latches := rfl
@[simp] theorem State.finish_ident (c : ResultCode) (s : State) : (s.finish c).ident = s.ident := rfl
@[simp] theorem State.finish_seq (c : ResultCode) (s : State) : (s.finish c).seq = .idle := rfl
@[simp] theorem State.finish_sess (c : ResultCode) (s : State) : (s.finish c).sess = s.sess := rfl
@[simp] theorem State.finish_res (c : ResultCode) (s : State) : (s.finish c).res = c := rfl
@[simp] theorem State.finish_cfg (c : ResultCode) (s : State) : (s.finish c).cfg = s.cfg := rfl
@[simp] theorem State.finish_img (c : ResultCode) (s : State) : (s.finish c).img = s.img := rfl
@[simp] theorem State.finish_bcd (c : ResultCode) (s : State) : (s.finish c).bcd = s.bcd := rfl
@[simp] theorem State.finish_tWritable (c : ResultCode) (s : State) : (s.finish c).tWritable = s.tWritable := rfl
@[simp] theorem State.finish_openReplies (c : ResultCode) (s : State) : (s.finish c).openReplies = s.openReplies := rfl
@[simp] theorem State.finish_writeReplies (c : ResultCode) (s : State) : (s.finish c).writeReplies = s.writeReplies := rfl
@[simp] theorem State.finish_waitEnds (c : ResultCode) (s : State) : (s.finish c).waitEnds = s.waitEnds := rfl
@[simp] theorem State.finish_inputs (c : ResultCode) (s : State) : (s.finish c).inputs = s.inputs := rfl
@[simp] theorem State.finish_history (c : ResultCode) (s : State) : (s.finish c).history = s.history ++ [.result c] := rfl

/-! ### `accept` -/

@[simp] theorem accept_latches (r : Request) (s : State) : (accept r s).latches = r.latches := rfl
@[simp] theorem accept_ident (r : Request) (s : State) : (accept r s).ident = r.ident := rfl
@[simp] theorem accept_seq (r : Request) (s : State) : (accept r s).seq = s.seq := rfl
@[simp] theorem accept_sess (r : Request) (s : State) : (accept r s).sess = s.sess := rfl
@[simp] theorem accept_res (r : Request) (s : State) : (accept r s).res = s.res := rfl
@[simp] theorem accept_cfg (r : Request) (s : State) : (accept r s).cfg = s.cfg := rfl
@[simp] theorem accept_img (r : Request) (s : State) : (accept r s).img = s.img := rfl
@[simp] theorem accept_bcd (r : Request) (s : State) : (accept r s).bcd = s.bcd := rfl
@[simp] theorem accept_tWritable (r : Request) (s : State) : (accept r s).tWritable = s.tWritable := rfl
@[simp] theorem accept_openReplies (r : Request) (s : State) : (accept r s).openReplies = s.openReplies := rfl
@[simp] theorem accept_writeReplies (r : Request) (s : State) : (accept r s).writeReplies = s.writeReplies := rfl
@[simp] theorem accept_waitEnds (r : Request) (s : State) : (accept r s).waitEnds = s.waitEnds := rfl
@[simp] theorem accept_inputs (r : Request) (s : State) : (accept r s).inputs = s.inputs := rfl
@[simp] theorem accept_history (r : Request) (s : State) : (accept r s).history = s.history := rfl

/-! ### `withAnswers` -/

@[simp] theorem State.withAnswers_latches (opens writes : List Reply) (ends : Nat) (s : State) : (s.withAnswers opens writes ends).latches = s.latches := rfl
@[simp] theorem State.withAnswers_ident (opens writes : List Reply) (ends : Nat) (s : State) : (s.withAnswers opens writes ends).ident = s.ident := rfl
@[simp] theorem State.withAnswers_seq (opens writes : List Reply) (ends : Nat) (s : State) : (s.withAnswers opens writes ends).seq = s.seq := rfl
@[simp] theorem State.withAnswers_sess (opens writes : List Reply) (ends : Nat) (s : State) : (s.withAnswers opens writes ends).sess = s.sess := rfl
@[simp] theorem State.withAnswers_res (opens writes : List Reply) (ends : Nat) (s : State) : (s.withAnswers opens writes ends).res = s.res := rfl
@[simp] theorem State.withAnswers_cfg (opens writes : List Reply) (ends : Nat) (s : State) : (s.withAnswers opens writes ends).cfg = s.cfg := rfl
@[simp] theorem State.withAnswers_img (opens writes : List Reply) (ends : Nat) (s : State) : (s.withAnswers opens writes ends).img = s.img := rfl
@[simp] theorem State.withAnswers_bcd (opens writes : List Reply) (ends : Nat) (s : State) : (s.withAnswers opens writes ends).bcd = s.bcd := rfl
@[simp] theorem State.withAnswers_tWritable (opens writes : List Reply) (ends : Nat) (s : State) : (s.withAnswers opens writes ends).tWritable = s.tWritable := rfl
@[simp] theorem State.withAnswers_openReplies (opens writes : List Reply) (ends : Nat) (s : State) : (s.withAnswers opens writes ends).openReplies = s.openReplies ++ opens := rfl
@[simp] theorem State.withAnswers_writeReplies (opens writes : List Reply) (ends : Nat) (s : State) : (s.withAnswers opens writes ends).writeReplies = s.writeReplies ++ writes := rfl
@[simp] theorem State.withAnswers_waitEnds (opens writes : List Reply) (ends : Nat) (s : State) : (s.withAnswers opens writes ends).waitEnds = s.waitEnds + ends := rfl
@[simp] theorem State.withAnswers_inputs (opens writes : List Reply) (ends : Nat) (s : State) : (s.withAnswers opens writes ends).inputs = s.inputs := rfl
@[simp] theorem State.withAnswers_history (opens writes : List Reply) (ends : Nat) (s : State) : (s.withAnswers opens writes ends).history = s.history := rfl

/-! ### The two ends of a request -/

@[simp] theorem raise_eq_finish (e : ResultCode) (s : State) : raise e s = s.finish e := rfl
@[simp] theorem complete_eq_finish (s : State) : complete s = s.finish .ok := rfl

end Sys2Proof.Machine
end

