-- ==== Sys2Proof/Laws/Sequencer.lean ====
section
/-! SUPPORT. What the sequencer can do, said once: one inversion lemma for an operation, and for a run of moves what it
leaves alone, what it appends to the history, and how it ends. -/

namespace Sys2Proof.Machine

/-- The state outside the running request: latches, stores, level and inputs. -/
structure SameOutside (s t : State) : Prop where
  latches : t.latches = s.latches
  ident : t.ident = s.ident
  img : t.img = s.img
  bcd : t.bcd = s.bcd
  tWritable : t.tWritable = s.tWritable
  inputs : t.inputs = s.inputs

theorem SameOutside.refl (s : State) : SameOutside s s := ⟨rfl, rfl, rfl, rfl, rfl, rfl⟩

theorem SameOutside.trans {s t u : State} (h : SameOutside s t) (k : SameOutside t u) : SameOutside s u :=
  ⟨k.latches.trans h.latches, k.ident.trans h.ident, k.img.trans h.img, k.bcd.trans h.bcd,
    k.tWritable.trans h.tWritable, k.inputs.trans h.inputs⟩

/-- An event is a result. -/
def Event.isResult : Event → Bool
  | .result _ => true
  | .tOpen _ _ => false
  | .tClose => false
  | .write _ _ => false
  | .wait => false

/-- An operation that is done: the answer it consumed and the event it records. -/
theorem perform_done {a : Act} {s t : State} (h : perform a s = .done t) :
    (∃ bytes rest, a = .segment bytes ∧ s.writeReplies = .ok :: rest ∧
      t = { s with writeReplies := rest, history := s.history ++ [.write bytes .ok] }) ∨
    (∃ n, a = .wait ∧ s.waitEnds = n + 1 ∧ t = { s with waitEnds := n, history := s.history ++ [.wait] }) ∨
    (∃ ident rest, a = .tOpen ident ∧ s.openReplies = .ok :: rest ∧
      t = { s with openReplies := rest, sess := .opened, history := s.history ++ [.tOpen ident .ok] }) := by
  cases a with
  | segment bytes =>
    rcases hw : s.writeReplies with _ | ⟨_ | _, rest⟩ <;> simp only [perform, hw] at h <;> cases h
    exact .inl ⟨bytes, rest, rfl, rfl, rfl⟩
  | wait =>
    rcases hw : s.waitEnds with _ | n <;> simp only [perform, hw] at h <;> cases h
    exact .inr (.inl ⟨n, rfl, rfl, rfl⟩)
  | tOpen ident =>
    rcases hw : s.openReplies with _ | ⟨_ | _, rest⟩ <;> simp only [perform, hw] at h <;> cases h
    exact .inr (.inr ⟨ident, rest, rfl, rfl, rfl⟩)

/-- An operation that failed: a segment write or a `TOpen`. -/
theorem perform_failed {a : Act} {s t : State} {e : ResultCode} (h : perform a s = .failed e t) :
    (∃ bytes rest, a = .segment bytes ∧ e = .transportWriteError ∧ s.writeReplies = .fail :: rest ∧
      t = { s with writeReplies := rest, history := s.history ++ [.write bytes .fail] }) ∨
    (∃ ident rest, a = .tOpen ident ∧ e = .transportUnavailable ∧ s.openReplies = .fail :: rest ∧
      t = { s with openReplies := rest, history := s.history ++ [.tOpen ident .fail] }) := by
  cases a with
  | segment bytes =>
    rcases hw : s.writeReplies with _ | ⟨_ | _, rest⟩ <;> simp only [perform, hw] at h <;> cases h
    exact .inl ⟨bytes, rest, rfl, rfl, rfl, rfl⟩
  | wait => rcases hw : s.waitEnds with _ | n <;> simp only [perform, hw] at h <;> cases h
  | tOpen ident =>
    rcases hw : s.openReplies with _ | ⟨_ | _, rest⟩ <;> simp only [perform, hw] at h <;> cases h
    exact .inr ⟨ident, rest, rfl, rfl, rfl, rfl⟩

/-- An operation goes unanswered exactly when no answer is ready. -/
theorem perform_unanswered {a : Act} {s : State} : perform a s = .unanswered ↔ answerReady a s = false := by
  cases a with
  | segment bytes => rcases hw : s.writeReplies with _ | ⟨_ | _, rest⟩ <;> simp [perform, answerReady, hw]
  | wait => rcases hw : s.waitEnds with _ | n <;> simp [perform, answerReady, hw]
  | tOpen ident => rcases hw : s.openReplies with _ | ⟨_ | _, rest⟩ <;> simp [perform, answerReady, hw]

theorem perform_done_outside {a : Act} {s t : State} (h : perform a s = .done t) : SameOutside s t := by
  obtain ⟨_, _, _, _, rfl⟩ | ⟨_, _, _, rfl⟩ | ⟨_, _, _, _, rfl⟩ := perform_done h <;>
    exact ⟨rfl, rfl, rfl, rfl, rfl, rfl⟩

theorem perform_failed_outside {a : Act} {s t : State} {e : ResultCode} (h : perform a s = .failed e t) :
    SameOutside s t := by
  obtain ⟨_, _, _, _, _, rfl⟩ | ⟨_, _, _, _, _, rfl⟩ := perform_failed h <;> exact ⟨rfl, rfl, rfl, rfl, rfl, rfl⟩

/-- A run of moves touches nothing outside the request. -/
theorem runMicros_outside (ms : List Micro) (s : State) : SameOutside s (runMicros ms s) := by
  induction ms generalizing s with
  | nil => exact ⟨rfl, rfl, rfl, rfl, rfl, rfl⟩
  | cons m ms ih =>
    cases m with
    | write f => exact (⟨rfl, rfl, rfl, rfl, rfl, rfl⟩ : SameOutside s (s.configure f)).trans (ih _)
    | act pos a =>
      have hm : SameOutside s (s.moveTo pos) := ⟨rfl, rfl, rfl, rfl, rfl, rfl⟩
      simp only [runMicros]
      cases hp : perform a (s.moveTo pos) with
      | done t => exact hm.trans ((perform_done_outside hp).trans (ih t))
      | failed e t =>
        exact hm.trans ((perform_failed_outside hp).trans ⟨rfl, rfl, rfl, rfl, rfl, rfl⟩)
      | unanswered => exact hm

/-- How a run of moves ends: complete or failed with its result written once, or busy at an operation of the list
that has no answer. -/
theorem runMicros_ends (ms : List Micro) (s : State) :
    (∃ es c, (c = .ok ∨ c = .transportWriteError ∨ c = .transportUnavailable) ∧ (runMicros ms s).seq = .idle ∧
      (runMicros ms s).res = c ∧ (runMicros ms s).history = s.history ++ (es ++ [.result c]) ∧
      ∀ e ∈ es, e.isResult = false) ∨
    (∃ es pos a, .act pos a ∈ ms ∧ (runMicros ms s).seq = pos ∧ (runMicros ms s).res = s.res ∧
      answerReady a (runMicros ms s) = false ∧
      (runMicros ms s).history = s.history ++ es ∧ ∀ e ∈ es, e.isResult = false) := by
  induction ms generalizing s with
  | nil => exact .inl ⟨[], .ok, .inl rfl, rfl, rfl, by simp [runMicros], by simp⟩
  | cons m ms ih =>
    cases m with
    | write f =>
      obtain ⟨es, c, hc, h1, h2, h3, h4⟩ | ⟨es, pos, a, hm, h1, h2, h3, h4, h5⟩ := ih (s.configure f)
      · exact .inl ⟨es, c, hc, h1, h2, h3, h4⟩
      · exact .inr ⟨es, pos, a, List.mem_cons_of_mem _ hm, h1, h2, h3, h4, h5⟩
    | act pos a =>
      simp only [runMicros]
      cases hp : perform a (s.moveTo pos) with
      | done t =>
        have ht : ∃ e : Event, e.isResult = false ∧ t.history = s.history ++ [e] ∧ t.res = s.res := by
          obtain ⟨_, _, _, _, rfl⟩ | ⟨_, _, _, rfl⟩ | ⟨_, _, _, _, rfl⟩ := perform_done hp
          exacts [⟨_, rfl, rfl, rfl⟩, ⟨_, rfl, rfl, rfl⟩, ⟨_, rfl, rfl, rfl⟩]
        obtain ⟨e, he, hh, hr⟩ := ht
        obtain ⟨es, c, hc, h1, h2, h3, h4⟩ | ⟨es, q, b, hm, h1, h2, h3, h4, h5⟩ := ih t
        · exact .inl ⟨e :: es, c, hc, h1, h2, by simp [h3, hh], by simpa [he] using h4⟩
        · exact .inr ⟨e :: es, q, b, List.mem_cons_of_mem _ hm, h1, h2.trans hr, h3, by simp [h4, hh],
            by simpa [he] using h5⟩
      | failed e t =>
        obtain ⟨bytes, rest, _, rfl, _, rfl⟩ | ⟨ident, rest, _, rfl, _, rfl⟩ := perform_failed hp
        · exact .inl ⟨[.write bytes .fail], _, by simp, rfl, rfl, by simp, by simp [Event.isResult]⟩
        · exact .inl ⟨[.tOpen ident .fail], _, by simp, rfl, rfl, by simp, by simp [Event.isResult]⟩
      | unanswered =>
        exact .inr ⟨[], pos, a, by simp, rfl, rfl, perform_unanswered.mp hp, by simp, by simp⟩

end Sys2Proof.Machine
end

