-- ==== Sys2Proof/Laws/Meaning.lean ====
section
/-! SUPPORT. What executing a request can do, said once. -/

namespace Sys2Proof.Machine

theorem gated_cases (ms : List Micro) (s : State) :
    (s.sess = .closed ∧ gated ms s = .next (raise .usageError s)) ∨
    (s.sess = .opened ∧ gated ms s = .next (runMicros ms s)) := by
  cases h : s.sess <;> simp [gated, h]

/-- A request under the gate of R252: turned away while Closed, its moves run while Open. -/
theorem exec_gated (i : Instr) (s : State) (he : exec i s = gated (microsOf i s) s) :
    (s.sess = .closed ∧ exec i s = .next (raise .usageError s)) ∨
    (s.sess = .opened ∧ exec i s = .next (runMicros (microsOf i s) s)) := by
  rw [he]; exact gated_cases _ s

theorem exec_cases_gated {i : Instr} {s : State} (hc : i ≠ .closeSession) (ho : ¬ ∃ ident, i = .openSession ident)
    (he : exec i s = gated (microsOf i s) s) :
    (∃ c, (c = .usageError ∨ c = .notReady ∨ c = .invalidImage ∨ c = .imageTooLarge) ∧
      exec i s = .next (raise c s)) ∨
    (exec i s = .next (runMicros (microsOf i s) s) ∧ i ≠ .closeSession ∧
      (s.sess = .closed ↔ ∃ ident, i = .openSession ident)) ∨
    (i = .closeSession ∧ s.sess = .closed ∧ exec i s = .next (complete s)) ∨
    (i = .closeSession ∧ s.sess = .opened ∧
      exec i s = .next (complete (State.record .tClose { s with sess := .closed, cfg := Cfg.defaults }))) := by
  obtain ⟨hs, hg⟩ | ⟨hs, hg⟩ := exec_gated i s he
  · exact .inl ⟨.usageError, .inl rfl, hg⟩
  · exact .inr (.inl ⟨hg, hc, by simp [hs, ho]⟩)

/-- The three ways a request goes: turned away with its code before anything is done; its moves run, Open's while
Closed and all others' while Open; or Close. -/
theorem exec_cases (i : Instr) (s : State) :
    (∃ c, (c = .usageError ∨ c = .notReady ∨ c = .invalidImage ∨ c = .imageTooLarge) ∧
      exec i s = .next (raise c s)) ∨
    (exec i s = .next (runMicros (microsOf i s) s) ∧ i ≠ .closeSession ∧
      (s.sess = .closed ↔ ∃ ident, i = .openSession ident)) ∨
    (i = .closeSession ∧ s.sess = .closed ∧ exec i s = .next (complete s)) ∨
    (i = .closeSession ∧ s.sess = .opened ∧
      exec i s = .next (complete (State.record .tClose { s with sess := .closed, cfg := Cfg.defaults }))) := by
  cases i with
  | printImage sw sh scale dark =>
    cases hr : printReady s with
    | false => exact .inl ⟨.notReady, by simp, by simp [exec, execPrintImage, hr]⟩
    | true =>
      have hs : s.sess = .opened := by
        cases h : s.sess <;> simp_all [printReady]
      cases hf : imageFault sw sh scale with
      | none =>
        exact .inr (.inl ⟨by simp [exec, execPrintImage, hr, hf, microsOf], by simp, by simp [hs]⟩)
      | some c =>
        refine .inl ⟨c, ?_, by simp [exec, execPrintImage, hr, hf]⟩
        unfold imageFault at hf
        split at hf
        · cases hf; simp
        · split at hf
          · cases hf; simp
          · split at hf <;> cases hf
            simp
  | openSession ident =>
    cases h : s.sess with
    | closed => exact .inr (.inl ⟨by simp [exec, execOpenSession, h, microsOf], by simp, by simp⟩)
    | opened => exact .inl ⟨.usageError, .inl rfl, by simp [exec, execOpenSession, h]⟩
  | closeSession =>
    cases h : s.sess with
    | closed => exact .inr (.inr (.inl ⟨rfl, rfl, by simp [exec, execCloseSession, h]⟩))
    | opened => exact .inr (.inr (.inr ⟨rfl, rfl, by simp [exec, execCloseSession, h]⟩))
  | _ => exact exec_cases_gated (by simp) (by simp) rfl

/-- While the block is busy a step either goes on with what is left of the latched request or has no step. -/
theorem resume_cases (s : State) :
    (∃ pos a ms, pendingMicros s = .act pos a :: ms ∧ answerReady a s = true ∧
      resume s = .next (runMicros (.act pos a :: ms) s)) ∨ resume s = .fault .stuck := by
  unfold resume
  split
  · rename_i pos a ms hp
    cases ha : answerReady a s with
    | true => exact .inl ⟨pos, a, ms, hp, ha, by simp⟩
    | false => exact .inr (by simp)
  · exact .inr rfl

end Sys2Proof.Machine
end

