-- ==== Sys2Proof/Laws/Memory.lean ====
section
/-! SUPPORT. The stores: a read after a write, and the canonical form kept by every write. -/

namespace Sys2Proof.Machine

variable {width : Nat} {unlisted : BitVec width}

/-- An address below the list's lower bound is not listed. -/
theorem Memory.read_of_lt {m : Memory width} {low a : Nat} (h : Memory.wfFrom unlisted low m = true) (ha : a < low) :
    Memory.read unlisted m a = unlisted := by
  induction m generalizing low with
  | nil => rfl
  | cons c m ih =>
    obtain ⟨b, v⟩ := c
    simp only [Memory.wfFrom, Bool.and_eq_true, decide_eq_true_eq] at h
    have hne : a ≠ b := by omega
    simp only [Memory.read, if_neg hne]
    exact ih h.2 (by omega)

/-- A canonical list stays canonical under a smaller lower bound. -/
theorem Memory.wfFrom_mono {m : Memory width} {low low' : Nat} (h : Memory.wfFrom unlisted low m = true) (hl : low' ≤ low) :
    Memory.wfFrom unlisted low' m = true := by
  cases m with
  | nil => rfl
  | cons c m =>
    obtain ⟨b, v⟩ := c
    simp only [Memory.wfFrom, Bool.and_eq_true, decide_eq_true_eq] at h ⊢
    exact ⟨⟨by omega, h.1.2⟩, h.2⟩

/-- A write keeps the canonical form above a lower bound. -/
theorem Memory.write_wfFrom {m : Memory width} {low a : Nat} (v : BitVec width)
    (h : Memory.wfFrom unlisted low m = true) (ha : low ≤ a) :
    Memory.wfFrom unlisted low (Memory.write unlisted m a v) = true := by
  induction m generalizing low with
  | nil => by_cases hv : v = unlisted <;> simp [Memory.write, Memory.wfFrom, hv, ha]
  | cons c m ih =>
    obtain ⟨b, u⟩ := c
    have h' := h
    simp only [Memory.wfFrom, Bool.and_eq_true, decide_eq_true_eq, bne_iff_ne] at h
    obtain ⟨⟨hb, hu⟩, hm⟩ := h
    by_cases hlt : a < b
    · by_cases hv : v = unlisted
      · simpa [Memory.write, hlt, hv] using h'
      · simp [Memory.write, hlt, hv, Memory.wfFrom, ha, hu, hm]
    · by_cases heq : a = b
      · subst heq
        by_cases hv : v = unlisted
        · simpa [Memory.write, hv] using Memory.wfFrom_mono hm (by omega)
        · simp [Memory.write, hv, Memory.wfFrom, ha, hm]
      · have := ih hm (by omega)
        simp [Memory.write, hlt, heq, Memory.wfFrom, hb, hu, this]

/-- Every write keeps the canonical form. -/
theorem Memory.write_wf {m : Memory width} (a : Nat) (v : BitVec width) (h : Memory.wf unlisted m = true) :
    Memory.wf unlisted (Memory.write unlisted m a v) = true :=
  Memory.write_wfFrom v h (Nat.zero_le a)

/-- Reading after a write, above a lower bound. -/
theorem Memory.read_write_from {m : Memory width} {low : Nat} (a b : Nat) (v : BitVec width)
    (h : Memory.wfFrom unlisted low m = true) :
    Memory.read unlisted (Memory.write unlisted m a v) b = if b = a then v else Memory.read unlisted m b := by
  induction m generalizing low with
  | nil => by_cases hv : v = unlisted <;> by_cases hb : b = a <;> simp [Memory.write, Memory.read, hv, hb]
  | cons c m ih =>
    obtain ⟨d, u⟩ := c
    simp only [Memory.wfFrom, Bool.and_eq_true, decide_eq_true_eq, bne_iff_ne] at h
    obtain ⟨⟨hd, hu⟩, hm⟩ := h
    by_cases hlt : a < d
    · have hout : Memory.read unlisted m a = unlisted := Memory.read_of_lt hm (by omega)
      have hne : a ≠ d := by omega
      by_cases hv : v = unlisted <;> by_cases hb : b = a <;> simp [Memory.write, Memory.read, hlt, hv, hb, hne, hout]
    · by_cases heq : a = d
      · subst heq
        have hout : Memory.read unlisted m a = unlisted := Memory.read_of_lt hm (by omega)
        by_cases hv : v = unlisted <;> by_cases hb : b = a <;> simp [Memory.write, Memory.read, hv, hb, hout]
      · have := ih hm
        have hda : ¬ d = a := fun e => heq e.symm
        by_cases hbd : b = d
        · subst hbd; simp [Memory.write, Memory.read, hlt, heq, hda]
        · simp [Memory.write, Memory.read, hlt, heq, this, hbd]

/-- A read after a write gives the value at the address written and leaves every other address alone. -/
theorem Memory.read_write {m : Memory width} (a b : Nat) (v : BitVec width) (h : Memory.wf unlisted m = true) :
    Memory.read unlisted (Memory.write unlisted m a v) b = if b = a then v else Memory.read unlisted m b :=
  Memory.read_write_from a b v h

/-- Two pixels in range have the same key only if they are the same pixel. -/
theorem pixelKey_inj {x y x' y' : Nat} (hx : x < 65536) (hx' : x' < 65536) :
    pixelKey x y = pixelKey x' y' ↔ x = x' ∧ y = y' := by
  unfold pixelKey; omega

/-- The image reads back what its owner stored. -/
theorem readPixel_writePixel {img : Memory 24} (x y x' y' : Nat) (p : Pixel) (hx : x < 65536) (hx' : x' < 65536)
    (h : Memory.wf unlistedPixel img = true) :
    readPixel (writePixel img x y p) x' y' = if x' = x ∧ y' = y then p else readPixel img x' y' := by
  unfold readPixel writePixel
  rw [Memory.read_write _ _ _ h]
  simp only [pixelKey_inj hx' hx]

/-- The barcode buffer reads back what its owner stored. -/
theorem readBarcodeByte_write {bcd : Memory 8} (i j : Nat) (b : Byte) (h : Memory.wf unlistedByte bcd = true) :
    readBarcodeByte (writeBarcodeByte bcd i b) j = if j = i then b else readBarcodeByte bcd j :=
  Memory.read_write _ _ _ h

/-- The bytes PrintBarcode reads: as many as asked for. -/
@[simp] theorem length_readBarcode (bcd : Memory 8) (len : Nat) : (readBarcode bcd len).length = len := by
  simp [readBarcode]

end Sys2Proof.Machine
end

