-- ==== Sys2Proof/Laws/PerInstr.lean ====
section
/-! SUPPORT. The statements made of every instruction, one lemma per constructor. -/

namespace Sys2Proof.Laws.RoundTrip

/-- The request record of a well-formed instruction is dispatched to that instruction (R80, R82). -/
def Statement (i : Instr) : Prop := i.wellFormed = true → decode (encode i) = .ok i

theorem reset : Statement .reset := fun _ => rfl
theorem setStatus (on : Bool) : Statement (.setStatus on) := fun _ => by cases on <;> rfl
theorem setControlParameter (d t i : Byte) : Statement (.setControlParameter d t i) := fun _ => rfl
theorem setSleepTime (sec : Byte) : Statement (.setSleepTime sec) := fun _ => rfl
theorem setDoubleWidthOn : Statement .setDoubleWidthOn := fun _ => rfl
theorem setDoubleWidthOff : Statement .setDoubleWidthOff := fun _ => rfl
theorem setPrintDensity (density breakTime : Byte) : Statement (.setPrintDensity density breakTime) := fun _ => rfl
theorem setCharacterSet (set : Byte) : Statement (.setCharacterSet set) := fun _ => rfl
theorem setCodeTable (table : Byte) : Statement (.setCodeTable table) := fun _ => rfl
theorem feed : Statement .feed := fun _ => rfl
theorem feedN (n : Byte) : Statement (.feedN n) := fun _ => rfl
theorem setLineSpacing (n : Byte) : Statement (.setLineSpacing n) := fun _ => rfl
theorem setAlign (mode : Byte) : Statement (.setAlign mode) := fun _ => rfl
theorem setLeftBlank (n : Byte) : Statement (.setLeftBlank n) := fun _ => rfl
theorem setBold (on : Bool) : Statement (.setBold on) := fun _ => by cases on <;> rfl
theorem setReverse (on : Bool) : Statement (.setReverse on) := fun _ => by cases on <;> rfl
theorem setUpDown (on : Bool) : Statement (.setUpDown on) := fun _ => by cases on <;> rfl
theorem setUnderline (on : Bool) : Statement (.setUnderline on) := fun _ => by cases on <;> rfl
theorem setKeyPanel (on : Bool) : Statement (.setKeyPanel on) := fun _ => by cases on <;> rfl
theorem setBarcodeReadablePosition (n : Byte) : Statement (.setBarcodeReadablePosition n) := fun _ => rfl
theorem setBarcodeHeight (h : Byte) : Statement (.setBarcodeHeight h) := fun _ => rfl
theorem setBarcodeWidth (w : Byte) : Statement (.setBarcodeWidth w) := fun _ => rfl

theorem printBarcode (kind : Byte) (len : Nat) : Statement (.printBarcode kind len) := fun h => by
  have hl : len < 256 := by
    have : len ≤ 255 := of_decide_eq_true h
    omega
  have : (BitVec.ofNat 8 len).toNat = len := by simp [Nat.mod_eq_of_lt hl]
  simp [decode, encode, barcodeRequest, this]

theorem printImage (srcW srcH : Nat) (scale dark : Half) : Statement (.printImage srcW srcH scale dark) := fun h => by
  simp only [Instr.wellFormed, Bool.and_eq_true, decide_eq_true_eq] at h
  simp [decode, encode, imageRequest, Nat.mod_eq_of_lt h.1, Nat.mod_eq_of_lt h.2]

theorem openSession (ident : Ident) : Statement (.openSession ident) := fun _ => rfl
theorem closeSession : Statement .closeSession := fun _ => rfl
theorem initSequence : Statement .initSequence := fun _ => rfl

end Sys2Proof.Laws.RoundTrip

namespace Sys2Proof

/-- What the decoder answers is well-formed: the counts come out of latches of their width. -/
theorem decode_wellFormed {r : Request} {i : Instr} (h : decode r = .ok i) : i.wellFormed = true := by
  have hl := r.latches.bcLen.isLt
  have hw := r.latches.srcW.isLt
  have hh := r.latches.srcH.isLt
  unfold decode at h
  split at h
  case h_5 => cases hf : Machine.flagOn r.latches.a0 <;> simp only [hf] at h <;> cases h <;> rfl
  case h_22 =>
    cases h
    exact decide_eq_true (by simp only [Config.bcMax]; omega)
  case h_23 =>
    cases h
    simp only [Instr.wellFormed, Bool.and_eq_true, decide_eq_true_eq]
    omega
  all_goals (cases h <;> rfl)

end Sys2Proof
end

