-- ==== Sys2Proof/Tests/Slice0.lean ====
section
/-! SUPPORT. The model's own tests: words written out from the spec's encodings, single steps with the results of
95_test_vectors.md, and for every statement with hypotheses a concrete state that meets them. -/

open Sys2Proof Sys2Proof.Machine Sys2Proof.Statements

namespace Sys2Proof.Tests

/-! ### Well-formedness: an ill-formed term for each check -/

/-- R55: 256 bytes exceed `BC_MAX`. -/
theorem test_barcode_too_long : Instr.wellFormed (.printBarcode 4#8 256) = false := by decide
/-- R21: `SRC_W` has 16 bits. -/
theorem test_image_too_wide : Instr.wellFormed (.printImage 65536 1 0x0100#16 0x0100#16) = false := by decide
/-- R21: `SRC_H` has 16 bits. -/
theorem test_image_too_high : Instr.wellFormed (.printImage 1 65536 0x0100#16 0x0100#16) = false := by decide
theorem test_greatest_operands : Instr.wellFormed (.printBarcode 4#8 255) = true ∧
    Instr.wellFormed (.printImage 65535 65535 0xFFFF#16 0#16) = true := by decide

/-! ### Decoding: words written bit by bit from the table's `encoding` column -/

theorem test_words_control :
    decodeTableWord 16 0b0001101101000000 = some .reset ∧
    decodeTableWord 24 0b000110110011110100000001 = some (.setStatus true) ∧
    decodeTableWord 40 0b0001101100110111000001110101000000000010 = some (.setControlParameter 7#8 80#8 2#8) ∧
    decodeTableWord 32 0b00011011001110000000101011111111 = some (.setSleepTime 10#8) ∧
    decodeTableWord 24 0b000100100010001101001010 = some (.setPrintDensity 10#8 2#8) ∧
    decodeTableWord 32 0b00011011011000110011010100000001 = some (.setKeyPanel true) := by decide

theorem test_words_format :
    decodeTableWord 16 0b0001101100001110 = some .setDoubleWidthOn ∧
    decodeTableWord 16 0b0001101100010100 = some .setDoubleWidthOff ∧
    decodeTableWord 24 0b000110110101001000001111 = some (.setCharacterSet 15#8) ∧
    decodeTableWord 24 0b000110110111010011111111 = some (.setCodeTable 255#8) ∧
    decodeTableWord 8 0b00001010 = some .feed ∧
    decodeTableWord 24 0b000110110100101000000000 = some (.feedN 0#8) ∧
    decodeTableWord 24 0b000110110011001100100000 = some (.setLineSpacing 32#8) ∧
    decodeTableWord 24 0b000110110110000111001000 = some (.setAlign 200#8) ∧
    decodeTableWord 24 0b000110110100001000101111 = some (.setLeftBlank 47#8) := by decide

theorem test_words_emphasis :
    decodeTableWord 48 0b000110110010000000000001000110110100010100000001 = some (.setBold true) ∧
    decodeTableWord 24 0b000111010100001000000001 = some (.setReverse true) ∧
    decodeTableWord 24 0b000110110111101100000000 = some (.setUpDown false) ∧
    decodeTableWord 24 0b000110110010110100000001 = some (.setUnderline true) := by decide

theorem test_words_barcode_image :
    decodeTableWord 24 0b000111010100100000000010 = some (.setBarcodeReadablePosition 2#8) ∧
    decodeTableWord 24 0b000111010110100011111111 = some (.setBarcodeHeight 255#8) ∧
    decodeTableWord 24 0b000111010111011100000011 = some (.setBarcodeWidth 3#8) ∧
    decodeTableWord 24 0b000111010110101100000100 = some (.printBarcode 4#8 0) ∧
    decodeTableWord 64 0b0001110101110110001100000000000000000010000000000000000100000000 =
      some (.printImage 16 1 0x0100#16 0x0100#16) := by decide

/-- A header wider than factor 1.0 reaches, `1D 76 30 00 CD AB 34 12`: the request read from it sends that header. -/
theorem test_wide_header :
    decodeTableWord 64 0x1D763000CDAB3412 = some (.printImage 65460 867 0x0560#16 0x0100#16) ∧
    rasterHeader (bytesPerLine (scaledSize 65460 0x0560#16)) (scaledSize 867 0x0560#16) =
      [0x1D#8, 0x76#8, 0x30#8, 0x00#8, 0xCD#8, 0xAB#8, 0x34#8, 0x12#8] := by decide

theorem test_words_session :
    decodeTableWord 8 0b00100000 = some (.openSession []) ∧
    decodeTableWord 8 0b00100001 = some .closeSession ∧
    decodeTableWord 8 0b00100010 = some .initSequence := by decide

/-- Words of no row: an opcode R85 does not list, a flag byte of 2 (R91), a wrong width. -/
theorem test_words_refused :
    decodeTableWord 16 0x1B41 = none ∧ decodeTableWord 24 0x1B3D02 = none ∧ decodeTableWord 24 0x1B40 = none := by
  decide

/-- A request record with every field its own value, so that a swapped operand shows. -/
def fullRequest (op : Byte) : Request :=
  { latches := { op := op, a0 := 0x81#8, a1 := 0x82#8, a2 := 0x83#8, srcW := 0x0101#16, srcH := 0x0102#16,
                 scale := 0x0103#16, dark := 0x0104#16, bcLen := 0x85#8 },
    ident := [0x2F#8] }

/-- What the decoder reads from `fullRequest`. -/
def decoded (op : Byte) : Option Instr :=
  match decode (fullRequest op) with
  | .ok i => some i
  | .error _ => none

/-- R82, tags 00 to 0B. -/
theorem test_tags_low :
    decoded 0x00#8 = some .reset ∧ decoded 0x01#8 = some (.setStatus true) ∧
    decoded 0x02#8 = some (.setControlParameter 0x81#8 0x82#8 0x83#8) ∧ decoded 0x03#8 = some (.setSleepTime 0x81#8) ∧
    decoded 0x04#8 = some .setDoubleWidthOn ∧ decoded 0x05#8 = some (.setPrintDensity 0x81#8 0x82#8) ∧
    decoded 0x06#8 = some (.setCharacterSet 0x81#8) ∧ decoded 0x07#8 = some (.setCodeTable 0x81#8) ∧
    decoded 0x08#8 = some .feed ∧ decoded 0x09#8 = some (.feedN 0x81#8) ∧
    decoded 0x0A#8 = some (.setLineSpacing 0x81#8) ∧ decoded 0x0B#8 = some (.setAlign 0x81#8) := by decide

/-- R82, tags 0C to 22 and the reserved tag 17 of V99. -/
theorem test_tags_high :
    decoded 0x0C#8 = some (.setLeftBlank 0x81#8) ∧ decoded 0x0D#8 = some (.setBold true) ∧
    decoded 0x0E#8 = some (.setReverse true) ∧ decoded 0x0F#8 = some (.setUpDown true) ∧
    decoded 0x10#8 = some (.setUnderline true) ∧ decoded 0x11#8 = some (.setKeyPanel true) ∧
    decoded 0x12#8 = some (.setBarcodeReadablePosition 0x81#8) ∧ decoded 0x13#8 = some (.setBarcodeHeight 0x81#8) ∧
    decoded 0x14#8 = some (.setBarcodeWidth 0x81#8) ∧ decoded 0x15#8 = some (.printBarcode 0x81#8 0x85) ∧
    decoded 0x16#8 = some (.printImage 0x0101 0x0102 0x0103#16 0x0104#16) ∧
    decoded 0x20#8 = some (.openSession [0x2F#8]) ∧ decoded 0x21#8 = some .closeSession ∧
    decoded 0x22#8 = some .initSequence ∧ decoded 0x17#8 = none := by decide

/-! ### Single steps, with the results of 95_test_vectors.md -/

/-- The example configuration EXCFG of 95_test_vectors.md, as the fields' values. -/
def exCfg : Cfg :=
  { heatDots := 7#8, heatTime := 80#8, heatInterval := 2#8, sleepSeconds := 0#8, density := 10#8, breakTime := 2#8,
    charset := 0#8, codetable := 0#8, align := 0#8, leftBlank := 0#8, bold := false, reverse := false, updown := false,
    underline := false, bcPos := 2#8, bcHeight := 50#8, bcWidth := 3#8 }

/-- An Open, Idle block whose next writes and waits are answered as given. -/
def opened (writes : List Reply) (ends : Nat) : State :=
  { State.reset with sess := .opened, cfg := exCfg, tWritable := true, writeReplies := writes, waitEnds := ends }

/-- The events and the result of a request that ends with the block Idle. -/
def outcome (i : Instr) (s : State) : Option (List Event × ResultCode) :=
  match exec i s with
  | .next t => if t.seq = .idle then some (t.history, t.res) else none
  | _ => none

/-- The one segment a request sends when its write is answered ok. -/
def sent (i : Instr) : Option (List Byte) :=
  match outcome i (opened [.ok] 0) with
  | some ([.write seg .ok, .result .ok], .ok) => some seg
  | _ => none

/-- `CFG` after a request whose write is answered ok. -/
def cfgAfter (i : Instr) : Option Cfg :=
  match exec i (opened [.ok] 0) with
  | .next t => some t.cfg
  | _ => none

/-- V1. -/
theorem test_reset : outcome .reset (opened [.ok] 1) =
    some ([.write [0x1B#8, 0x40#8] .ok, .wait, .result .ok], .ok) := by decide
/-- V2, V3, V19. -/
theorem test_control_flags : sent (.setStatus true) = some [0x1B#8, 0x3D#8, 0x01#8] ∧
    sent (.setStatus false) = some [0x1B#8, 0x3D#8, 0x00#8] ∧
    sent (.setKeyPanel true) = some [0x1B#8, 0x63#8, 0x35#8, 0x01#8] := by decide
/-- V5. -/
theorem test_control_parameter : sent (.setControlParameter 7#8 80#8 2#8) = some [0x1B#8, 0x37#8, 0x07#8, 0x50#8, 0x02#8] := by
  decide
/-- V8, V101. -/
theorem test_sleep_time : outcome (.setSleepTime 10#8) (opened [.ok, .ok] 1) =
      some ([.write [0x1B#8, 0x38#8, 0x0A#8] .ok, .wait, .write [0xFF#8] .ok, .result .ok], .ok) ∧
    outcome (.setSleepTime 5#8) (opened [.ok, .fail] 1) =
      some ([.write [0x1B#8, 0x38#8, 0x05#8] .ok, .wait, .write [0xFF#8] .fail, .result .transportWriteError],
        .transportWriteError) := by decide
/-- V14 to V18. -/
theorem test_density : sent (.setPrintDensity 14#8 4#8) = some [0x12#8, 0x23#8, 0x8E#8] ∧
    sent (.setPrintDensity 32#8 0#8) = some [0x12#8, 0x23#8, 0x20#8] ∧
    sent (.setPrintDensity 0#8 8#8) = some [0x12#8, 0x23#8, 0x00#8] ∧
    sent (.setPrintDensity 15#8 15#8) = some [0x12#8, 0x23#8, 0xEF#8] := by decide
/-- V15: the fields hold the raw values. -/
theorem test_density_fields : (cfgAfter (.setPrintDensity 32#8 9#8)).map (fun c => (c.density, c.breakTime)) =
    some (32#8, 9#8) := by decide
/-- V21, V22, V24, V26. -/
theorem test_format_selectors : sent .setDoubleWidthOn = some [0x1B#8, 0x0E#8] ∧
    sent .setDoubleWidthOff = some [0x1B#8, 0x14#8] ∧ sent (.setCharacterSet 15#8) = some [0x1B#8, 0x52#8, 0x0F#8] ∧
    sent (.setCodeTable 255#8) = some [0x1B#8, 0x74#8, 0xFF#8] := by decide
/-- V27, V29, V35, V40. -/
theorem test_feed_and_align : sent .feed = some [0x0A#8] ∧ sent (.feedN 0#8) = some [0x1B#8, 0x4A#8, 0x00#8] ∧
    sent (.setLineSpacing 32#8) = some [0x1B#8, 0x33#8, 0x20#8] ∧
    sent (.setAlign 200#8) = some [0x1B#8, 0x61#8, 0xC8#8] := by decide
/-- V31, V33, V34. -/
theorem test_left_blank : sent (.setLeftBlank 46#8) = some [0x1B#8, 0x42#8, 0x2E#8] ∧
    sent (.setLeftBlank 48#8) = some [0x1B#8, 0x42#8, 0x2F#8] ∧
    (cfgAfter (.setLeftBlank 255#8)).map (fun c => c.leftBlank) = some 47#8 := by decide
/-- V41, V43, V45, V47. -/
theorem test_emphasis : sent (.setBold true) = some [0x1B#8, 0x20#8, 0x01#8, 0x1B#8, 0x45#8, 0x01#8] ∧
    sent (.setReverse true) = some [0x1D#8, 0x42#8, 0x01#8] ∧ sent (.setUpDown true) = some [0x1B#8, 0x7B#8, 0x01#8] ∧
    sent (.setUnderline true) = some [0x1B#8, 0x2D#8, 0x01#8] := by decide
/-- V49, V50, V53, V56, V58. -/
theorem test_barcode_settings : sent (.setBarcodeReadablePosition 2#8) = some [0x1D#8, 0x48#8, 0x02#8] ∧
    sent (.setBarcodeHeight 0#8) = some [0x1D#8, 0x68#8, 0x01#8] ∧
    sent (.setBarcodeHeight 255#8) = some [0x1D#8, 0x68#8, 0xFF#8] ∧
    sent (.setBarcodeWidth 2#8) = some [0x1D#8, 0x77#8, 0x02#8] ∧
    sent (.setBarcodeWidth 4#8) = some [0x1D#8, 0x77#8, 0x03#8] := by decide

/-- V62: a `00` inside the data is sent as it is. -/
theorem test_print_barcode :
    outcome (.printBarcode 8#8 3) { opened [.ok] 0 with bcd := [(0, 0x41#8), (2, 0x42#8)] } =
      some ([.write [0x1D#8, 0x6B#8, 0x08#8, 0x41#8, 0x00#8, 0x42#8, 0x00#8] .ok, .result .ok], .ok) := by decide

/-- The 3×2 image of V70: `#.#` over `.#.`. -/
def smallImage : Memory 24 := [(0, 0#24), (2, 0#24), (65537, 0#24)]

/-- V70, P3. -/
theorem test_print_image_doubled :
    outcome (.printImage 3 2 0x0200#16 0x0100#16) { opened [.ok, .ok, .ok] 0 with img := smallImage } =
      some ([.write [0x1D#8, 0x76#8, 0x30#8, 0x00#8, 0x01#8, 0x00#8, 0x04#8, 0x00#8] .ok,
             .write [0xCC#8, 0xCC#8, 0x30#8, 0x30#8] .ok, .write [0x0A#8] .ok, .result .ok], .ok) := by decide

/-- V79 and V73: only `000000` is ink; a fractional factor. -/
theorem test_print_image_bodies :
    rasterBody [(0, 0x000001#24), (1, 0x010000#24), (3, 0x000000#24)] 4 1 4 1 = [0x10#8] ∧
    rasterBody [(0, 0#24), (3, 0#24), (4, 0#24)] 5 1 7 1 = [0xC6#8] := by decide

/-- V80, V82, V85, V86, V88. -/
theorem test_print_image_errors :
    outcome (.printImage 0 5 0x0100#16 0x0100#16) (opened [] 0) = some ([.result .invalidImage], .invalidImage) ∧
    outcome (.printImage 1 1 0x0080#16 0x0100#16) (opened [] 0) = some ([.result .invalidImage], .invalidImage) ∧
    outcome (.printImage 65535 1 0x0801#16 0x0100#16) (opened [] 0) = some ([.result .imageTooLarge], .imageTooLarge) ∧
    outcome (.printImage 1 32768 0x0200#16 0x0100#16) (opened [] 0) = some ([.result .imageTooLarge], .imageTooLarge) ∧
    outcome (.printImage 1 1 0x0100#16 0x0100#16) { opened [] 0 with tWritable := false } =
      some ([.result .notReady], .notReady) := by decide

/-- V94, V95, V96. -/
theorem test_open :
    outcome (.openSession [1#8]) { State.reset with openReplies := [.ok] } =
      some ([.tOpen [1#8] .ok, .result .ok], .ok) ∧
    outcome (.openSession [1#8]) { State.reset with openReplies := [.fail] } =
      some ([.tOpen [1#8] .fail, .result .transportUnavailable], .transportUnavailable) ∧
    outcome (.openSession [1#8]) (opened [] 0) = some ([.result .usageError], .usageError) := by decide

/-- V97, V98. -/
theorem test_close : outcome .closeSession (opened [] 0) = some ([.tClose, .result .ok], .ok) ∧
    outcome .closeSession State.reset = some ([.result .ok], .ok) := by decide

/-- P5: the fifth write of Init fails; `sleep_seconds` was written before it, nothing after it happens. -/
theorem test_init_aborted :
    ∃ t, exec .initSequence (opened [.ok, .ok, .ok, .ok, .fail] 2) = .next t ∧ t.cfg.sleepSeconds = Config.defSleep ∧
      t.cfg.bcPos = exCfg.bcPos ∧ t.waitEnds = 1 ∧ t.res = .transportWriteError ∧ t.seq = .idle ∧
      t.history.length = 7 := ⟨_, rfl, rfl, rfl, rfl, rfl, rfl, rfl⟩

/-- V90, V93: what a Closed block answers. -/
theorem test_closed_gate : outcome (.setAlign 1#8) State.reset = some ([.result .usageError], .usageError) ∧
    outcome (.printImage 1 1 0x0100#16 0x0100#16) State.reset = some ([.result .notReady], .notReady) := by decide

/-- V99: the reserved tag 17. -/
theorem test_reserved_tag :
    ∃ t, step { opened [] 0 with inputs := [.request (fullRequest 0x17#8)] } = .next t ∧ t.res = .illegalRequest ∧
      t.sess = .opened := ⟨_, rfl, rfl, rfl⟩

/-- A table word is fetched and run by the very next step. -/
theorem test_fetch_word :
    ∃ t, step (State.withFetchWord (opened [.ok] 0) 24 0x1B6101) = .next t ∧ t.cfg.align = 1#8 ∧
      t.history = [.write [0x1B#8, 0x61#8, 0x01#8] .ok, .result .ok] := ⟨_, rfl, rfl, rfl⟩

/-- R305: a write that is never answered leaves the block at it, and there is no further step. -/
theorem test_hang :
    ∃ t, step (State.withFetchWord (opened [] 0) 24 0x1B6101) = .next t ∧ t.seq = .item 0 ∧ step t = .fault .stuck :=
  ⟨_, rfl, rfl, rfl⟩

/-! ### A state that meets the invariant -/

/-- An Open, Idle block with a coherent history. -/
def good (inputs : List Input) : State :=
  { opened [.ok, .ok, .ok] 2 with inputs := inputs, history := [.tOpen [] .ok, .result .ok], img := smallImage,
                                   bcd := [(0, 0x31#8)] }

theorem exCfg_inRange : exCfg.inRange := by unfold Cfg.inRange; decide

theorem good_inv (inputs : List Input) : (good inputs).Inv :=
  { cfgInRange := exCfg_inRange
    closedHoldsDefaults := fun h => by cases h
    storesWf := ⟨rfl, rfl⟩
    transportKept := ⟨rfl, rfl⟩
    busyInSession := fun h => absurd rfl h
    busyHasPosition := fun h => absurd rfl h }

/-- A block busy with `SetAlign(1)`, its write answered or not. -/
def busy (writes : List Reply) : State :=
  { opened writes 0 with latches := (encode (.setAlign 1#8)).latches, seq := .item 0 }

/-! ### Witnesses: every statement's hypotheses are met together -/

/-- The three cases of a one-segment directive. -/
def OneSegmentCases : Prop :=
  (∃ s : State, s.sess = .closed) ∧ (∃ (s : State) (ws : List Reply), s.sess = .opened ∧ s.writeReplies = .ok :: ws) ∧
  ∃ (s : State) (ws : List Reply), s.sess = .opened ∧ s.writeReplies = .fail :: ws

theorem one_segment_cases : OneSegmentCases :=
  ⟨⟨State.reset, rfl⟩, ⟨opened [.ok] 0, [], rfl, rfl⟩, opened [.fail] 0, [], rfl, rfl⟩

/-- A request record with the tag. -/
theorem tag_met (op : Byte) : ∃ r : Request, r.latches.op = op := ⟨fullRequest op, rfl⟩

theorem witness_LatchesAreUnreadBeforeAcceptance :
    ∃ (s : State) (r : Request) (rest : List Input), s.seq = .idle ∧ s.inputs = .request r :: rest :=
  ⟨good [.request (fullRequest 0#8)], _, _, rfl, rfl⟩

theorem witness_EveryStepKeepsTheInvariant :
    ∃ s t : State, s.Inv ∧ step s = .next t ∧ t.cfg.align = 0x81#8 :=
  ⟨good [.request (fullRequest 0x0B#8)], _, good_inv _, rfl, rfl⟩

theorem witness_DecodeInvertsEncode : ∃ i : Instr, i.wellFormed = true ∧ i = .printBarcode 4#8 255 := ⟨_, by decide, rfl⟩

/-- The boundary tags 17, 1F and 23 of the reserved ranges. -/
theorem witness_ReservedTagsAreIllegalRequests :
    (∃ (s : State) (r : Request) (rest : List Input), (0x16 < r.latches.op.toNat ∧ r.latches.op.toNat < 0x20) ∧
      s.seq = .idle ∧ s.inputs = .request r :: rest ∧ r.latches.op = 0x17#8) ∧
    (∃ r : Request, (0x16 < r.latches.op.toNat ∧ r.latches.op.toNat < 0x20) ∧ r.latches.op = 0x1F#8) ∧
    ∃ r : Request, 0x22 < r.latches.op.toNat ∧ r.latches.op = 0x23#8 :=
  ⟨⟨good [.request (fullRequest 0x17#8)], _, _, by decide, rfl, rfl, rfl⟩,
   ⟨fullRequest 0x1F#8, by decide, rfl⟩, ⟨fullRequest 0x23#8, by decide, rfl⟩⟩

theorem witness_StepRunsTheDecodedRequest :
    (∃ (s : State) (r : Request) (rest : List Input) (i : Instr),
      s.seq = .idle ∧ s.inputs = .request r :: rest ∧ decode r = .ok i) ∧
    ∃ s : State, s.seq = .idle ∧ s.inputs = [] :=
  ⟨⟨good [.request (fullRequest 0#8)], _, _, _, rfl, rfl, rfl⟩, ⟨good [], rfl, rfl⟩⟩

theorem witness_BusyBlockGoesOnOnlyWhenAnswered :
    (∃ (s : State) (pos : SeqPos) (a : Act) (ms : List Micro),
      s.seq ≠ .idle ∧ pendingMicros s = .act pos a :: ms ∧ answerReady a s = true) ∧
    ∃ (s : State) (pos : SeqPos) (a : Act) (ms : List Micro),
      s.seq ≠ .idle ∧ pendingMicros s = .act pos a :: ms ∧ answerReady a s = false :=
  ⟨⟨busy [.ok], _, _, _, by decide, rfl, rfl⟩, ⟨busy [], _, _, _, by decide, rfl, rfl⟩⟩

theorem witness_BusyBlockAcceptsNothing : ∃ s t : State, s.seq ≠ .idle ∧ step s = .next t :=
  ⟨busy [.ok], _, by decide, rfl⟩

/-- Answers that come, and answers that do not. -/
theorem witness_LateAnswersChangeNothing :
    ∃ (i : Instr) (s t u : State), decode { latches := s.latches, ident := s.ident } = .ok i ∧ exec i s = .next t ∧
      t.seq ≠ .idle ∧ step (t.withAnswers [] [.ok] 0) = .next u ∧
      step (t.withAnswers [] [] 0) = .fault .stuck :=
  ⟨.setAlign 1#8, busy [], _, _, rfl, rfl, by decide, rfl, rfl⟩

/-- The last pixel of the address space, the last byte of the buffer. -/
theorem witness_InputsChangeWhatTheyName :
    (∃ (s : State) (x y : Half) (p : Pixel) (rest : List Input),
      s.Inv ∧ s.seq = .idle ∧ s.inputs = .pixel x y p :: rest ∧ x = 65535#16 ∧ y = 65535#16) ∧
    (∃ (s : State) (i b : Byte) (rest : List Input), s.Inv ∧ s.seq = .idle ∧ s.inputs = .barcodeByte i b :: rest ∧ i = 255#8) ∧
    ∃ (s : State) (level : Bool) (rest : List Input), s.seq = .idle ∧ s.inputs = .writable level :: rest :=
  ⟨⟨good [.pixel 65535#16 65535#16 0#24], _, _, _, _, good_inv _, rfl, rfl, rfl, rfl⟩,
   ⟨good [.barcodeByte 255#8 7#8], _, _, _, good_inv _, rfl, rfl, rfl⟩, ⟨good [.writable false], _, _, rfl, rfl⟩⟩

/-- A Closed block that meets the invariant. -/
def closedGood : State := { good [] with sess := .closed, cfg := Cfg.defaults, history := [] }

theorem defaults_in_range : Cfg.defaults.inRange := by
  refine ⟨?_, ?_, ?_⟩
  · have := Config.defLeftBlankIndex.isLt
    simp [Cfg.defaults, Config.defLeftBlank]; omega
  · have := Config.defBcHeightIndex.isLt
    simp [Cfg.defaults, Config.defBcHeight]; omega
  · cases h : Config.defBcWidthIsHi <;> simp [Cfg.defaults, Config.defBcWidth, h]

theorem closedGood_inv : closedGood.Inv :=
  { cfgInRange := defaults_in_range
    closedHoldsDefaults := fun _ => rfl
    storesWf := ⟨rfl, rfl⟩
    transportKept := ⟨rfl, rfl⟩
    busyInSession := fun h => absurd rfl h
    busyHasPosition := fun h => absurd rfl h }

theorem witness_ReadBackPortReadsTheFields :
    (∃ s : State, s.seq = .idle) ∧ (∃ s : State, s.seq ≠ .idle) ∧
    ∃ s : State, s.Inv ∧ s.seq = .idle ∧ s.sess = .closed :=
  ⟨⟨good [], rfl⟩, ⟨busy [], by decide⟩, ⟨closedGood, closedGood_inv, rfl, rfl⟩⟩

theorem witness_StatusAndKeyPanelSendTheirFlag :
    (∃ r : Request, r.latches.op = 0x01#8) ∧ (∃ r : Request, r.latches.op = 0x11#8) ∧ OneSegmentCases :=
  ⟨tag_met _, tag_met _, one_segment_cases⟩

theorem witness_ControlParameterSetsTheHeating : (∃ r : Request, r.latches.op = 0x02#8) ∧ OneSegmentCases :=
  ⟨tag_met _, one_segment_cases⟩

theorem witness_PrintDensitySendsThePackedByte : (∃ r : Request, r.latches.op = 0x05#8) ∧ OneSegmentCases :=
  ⟨tag_met _, one_segment_cases⟩

theorem witness_ResetSendsTwoBytesAndWaits :
    (∃ r : Request, r.latches.op = 0x00#8) ∧ OneSegmentCases ∧
    ∃ (s : State) (ws : List Reply) (n : Nat), s.sess = .opened ∧ s.writeReplies = .ok :: ws ∧ s.waitEnds = n + 1 :=
  ⟨tag_met _, one_segment_cases, opened [.ok] 1, _, _, rfl, rfl, rfl⟩

theorem witness_SleepTimeSendsItsTrailerAfterAWait :
    (∃ r : Request, r.latches.op = 0x03#8) ∧ OneSegmentCases ∧
    (∃ (s : State) (ws : List Reply) (n : Nat), s.sess = .opened ∧ s.writeReplies = .ok :: .ok :: ws ∧
      s.waitEnds = n + 1) ∧
    ∃ (s : State) (ws : List Reply) (n : Nat), s.sess = .opened ∧ s.writeReplies = .ok :: .fail :: ws ∧
      s.waitEnds = n + 1 :=
  ⟨tag_met _, one_segment_cases, ⟨opened [.ok, .ok] 1, _, _, rfl, rfl, rfl⟩, opened [.ok, .fail] 1, _, _, rfl, rfl, rfl⟩

theorem witness_UnansweredOperationLeavesTheBlockAtIt :
    (∃ (i : Instr) (s : State), (∀ sw sh scale dark, i ≠ .printImage sw sh scale dark) ∧
      (∀ ident, i ≠ .openSession ident) ∧ i ≠ .closeSession ∧ s.sess = .opened ∧ s.writeReplies = [] ∧
      i = .initSequence) ∧
    (∃ (s : State) (ws : List Reply), s.sess = .opened ∧ s.writeReplies = .ok :: ws ∧ s.waitEnds = 0) ∧
    ∃ (s : State) (n : Nat), s.sess = .opened ∧ s.writeReplies = [.ok] ∧ s.waitEnds = n + 1 :=
  ⟨⟨.initSequence, opened [] 0, by simp, by simp, by simp, rfl, rfl, rfl⟩, ⟨opened [.ok] 0, _, rfl, rfl, rfl⟩,
   opened [.ok] 1, _, rfl, rfl, rfl⟩

theorem witness_DoubleWidthSelectsItsOpcode : (∃ r : Request, r.latches.op = 0x04#8) ∧ OneSegmentCases :=
  ⟨tag_met _, one_segment_cases⟩

theorem witness_RawCodesAreStoredAndSent :
    (∃ r : Request, r.latches.op = 0x06#8) ∧ (∃ r : Request, r.latches.op = 0x07#8) ∧
    (∃ r : Request, r.latches.op = 0x0B#8) ∧ (∃ r : Request, r.latches.op = 0x12#8) ∧ OneSegmentCases :=
  ⟨tag_met _, tag_met _, tag_met _, tag_met _, one_segment_cases⟩

theorem witness_FeedAndLineSpacing :
    (∃ r : Request, r.latches.op = 0x08#8) ∧ (∃ r : Request, r.latches.op = 0x09#8) ∧
    (∃ r : Request, r.latches.op = 0x0A#8) ∧ OneSegmentCases :=
  ⟨tag_met _, tag_met _, tag_met _, one_segment_cases⟩

/-- The two clauses of the clamp at their boundary, 46 and 47. -/
theorem witness_LeftBlankIsClampedToFortySeven :
    (∃ n : Byte, 47 ≤ n.toNat ∧ n = 47#8) ∧ (∃ n : Byte, n.toNat < 47 ∧ n = 46#8) ∧
    (∃ r : Request, r.latches.op = 0x0C#8) ∧ OneSegmentCases :=
  ⟨⟨_, by decide, rfl⟩, ⟨_, by decide, rfl⟩, tag_met _, one_segment_cases⟩

theorem witness_EmphasisFlagsAreStoredAndSent :
    (∃ r : Request, r.latches.op = 0x0D#8) ∧ (∃ r : Request, r.latches.op = 0x0E#8) ∧
    (∃ r : Request, r.latches.op = 0x0F#8) ∧ (∃ r : Request, r.latches.op = 0x10#8) ∧ OneSegmentCases :=
  ⟨tag_met _, tag_met _, tag_met _, tag_met _, one_segment_cases⟩

/-- The clauses of the two clamps at their boundaries: 1 and 2 for the height, 2 and 3 for the width. -/
theorem witness_BarcodeSizesAreClamped :
    (∃ h : Byte, h.toNat ≤ 1 ∧ h = 1#8) ∧ (∃ h : Byte, 1 < h.toNat ∧ h = 2#8) ∧
    (∃ w : Byte, w.toNat ≤ 2 ∧ w = 2#8) ∧ (∃ w : Byte, 3 ≤ w.toNat ∧ w = 3#8) ∧
    (∃ r : Request, r.latches.op = 0x13#8) ∧ (∃ r : Request, r.latches.op = 0x14#8) ∧ OneSegmentCases :=
  ⟨⟨_, by decide, rfl⟩, ⟨_, by decide, rfl⟩, ⟨_, by decide, rfl⟩, ⟨_, by decide, rfl⟩, tag_met _, tag_met _,
   one_segment_cases⟩

theorem witness_PrintBarcodeSendsItsDataVerbatim : (∃ r : Request, r.latches.op = 0x15#8) ∧ OneSegmentCases :=
  ⟨tag_met _, one_segment_cases⟩

theorem witness_InitSendsItsNineSegments :
    (∃ r : Request, r.latches.op = 0x22#8) ∧ (∃ s : State, s.sess = .closed) ∧
    ∃ (s : State) (ws : List Reply) (n : Nat), s.sess = .opened ∧ s.writeReplies = List.replicate 9 .ok ++ ws ∧
      s.waitEnds = n + 2 :=
  ⟨tag_met _, ⟨State.reset, rfl⟩, ⟨opened (List.replicate 9 .ok) 2, [], 0, rfl, rfl, rfl⟩⟩

/-- The first and the last write fail. -/
theorem witness_InitStopsAtTheFirstFailedWrite :
    (∃ (s : State) (n m : Nat) (ws : List Reply), s.sess = .opened ∧ n < 9 ∧
      s.writeReplies = List.replicate n .ok ++ .fail :: ws ∧ s.waitEnds = m + initWaitsBefore n ∧ n = 0) ∧
    ∃ (s : State) (n m : Nat) (ws : List Reply), s.sess = .opened ∧ n < 9 ∧
      s.writeReplies = List.replicate n .ok ++ .fail :: ws ∧ s.waitEnds = m + initWaitsBefore n ∧ n = 8 :=
  ⟨⟨opened [.fail] 0, 0, 0, [], rfl, by decide, rfl, rfl, rfl⟩,
   ⟨opened (List.replicate 8 .ok ++ [.fail]) 2, 8, 0, [], rfl, by decide, rfl, rfl, rfl⟩⟩

/-- The first and the last write are not answered; each of the two waits does not end. -/
theorem witness_InitWaitsAtItsUnansweredItem :
    (∃ (s : State) (n m : Nat), s.sess = .opened ∧ n < 9 ∧ s.writeReplies = List.replicate n .ok ∧
      s.waitEnds = m + initWaitsBefore n ∧ n = 0) ∧
    (∃ (s : State) (n m : Nat), s.sess = .opened ∧ n < 9 ∧ s.writeReplies = List.replicate n .ok ∧
      s.waitEnds = m + initWaitsBefore n ∧ n = 8) ∧
    (∃ (s : State) (ws : List Reply), s.sess = .opened ∧ s.writeReplies = .ok :: ws ∧ s.waitEnds = 0) ∧
    ∃ (s : State) (ws : List Reply), s.sess = .opened ∧ s.writeReplies = List.replicate 5 .ok ++ ws ∧ s.waitEnds = 1 :=
  ⟨⟨opened [] 0, 0, 0, rfl, by decide, rfl, rfl, rfl⟩, ⟨opened (List.replicate 8 .ok) 2, 8, 0, rfl, by decide, rfl, rfl, rfl⟩,
   ⟨opened [.ok] 0, _, rfl, rfl, rfl⟩, ⟨opened (List.replicate 5 .ok) 1, [], rfl, rfl, rfl⟩⟩

/-- Each check at its boundary: V80 (0×5), V82 (scaled size 0), V85 (`bpl` just over), V86 (`dh` = 65536). -/
theorem witness_PrintImageChecksInOrder :
    (∃ r : Request, r.latches.op = 0x16#8) ∧ (∃ s : State, s.sess = .closed) ∧ (∃ s : State, s.tWritable = false) ∧
    (∃ (s : State) (sw sh : Nat), s.sess = .opened ∧ s.tWritable = true ∧ (sw = 0 ∨ sh = 0)) ∧
    (∃ (s : State) (sw sh : Nat) (scale : Half), s.sess = .opened ∧ s.tWritable = true ∧ sw ≠ 0 ∧ sh ≠ 0 ∧
      (sw * scale.toNat / 256 = 0 ∨ sh * scale.toNat / 256 = 0)) ∧
    (∃ (s : State) (sw sh : Nat) (scale : Half), s.sess = .opened ∧ s.tWritable = true ∧
      sw * scale.toNat / 256 ≠ 0 ∧ sh * scale.toNat / 256 ≠ 0 ∧ 65535 < (sw * scale.toNat / 256 + 7) / 8) ∧
    ∃ (s : State) (sw sh : Nat) (scale : Half), s.sess = .opened ∧ s.tWritable = true ∧
      sw * scale.toNat / 256 ≠ 0 ∧ sh * scale.toNat / 256 = 65536 :=
  ⟨tag_met _, ⟨State.reset, rfl⟩, ⟨State.reset, rfl⟩, ⟨opened [] 0, 0, 5, rfl, rfl, by decide⟩,
   ⟨opened [] 0, 1, 1, 0x0080#16, rfl, rfl, by decide, by decide, by decide⟩,
   ⟨opened [] 0, 65535, 1, 0x0801#16, rfl, rfl, by decide, by decide, by decide⟩,
   ⟨opened [] 0, 1, 32768, 0x0200#16, rfl, rfl, by decide, by decide⟩⟩

/-- The operands of V70, with each of the reply lists. -/
theorem witness_PrintImageSendsHeaderBodyTrailer (writes : List Reply) :
    ∃ (sw sh dw dh bpl : Nat) (scale : Half) (s : State) (header body : List Byte),
      s.sess = .opened ∧ s.tWritable = true ∧ dw = sw * scale.toNat / 256 ∧ dh = sh * scale.toNat / 256 ∧
      bpl = (dw + 7) / 8 ∧ 0 < dw ∧ 0 < dh ∧ bpl ≤ 65535 ∧ dh ≤ 65535 ∧
      header = [0x1D#8, 0x76#8, 0x30#8, 0x00#8, BitVec.ofNat 8 (bpl % 256), BitVec.ofNat 8 (bpl / 256),
                BitVec.ofNat 8 (dh % 256), BitVec.ofNat 8 (dh / 256)] ∧
      body = rasterBody s.img sw sh dw dh ∧ s.writeReplies = writes :=
  ⟨3, 2, 6, 4, 1, 0x0200#16, { opened writes 0 with img := smallImage }, _, _, rfl, rfl, rfl, rfl, rfl, by decide,
   by decide, by decide, by decide, rfl, rfl, rfl⟩

/-- The operands of V70 again. -/
theorem witness_PrintImageWaitsAtItsSegment (writes : List Reply) :
    ∃ (s : State) (header body : List Byte), s.sess = .opened ∧ s.tWritable = true ∧
      imageFault 3 2 0x0200#16 = none ∧
      header = rasterHeader (bytesPerLine (scaledSize 3 0x0200#16)) (scaledSize 2 0x0200#16) ∧
      body = rasterBody s.img 3 2 (scaledSize 3 0x0200#16) (scaledSize 2 0x0200#16) ∧ s.writeReplies = writes :=
  ⟨{ opened writes 0 with img := smallImage }, _, _, rfl, rfl, by decide, rfl, rfl, rfl⟩

/-- The last row, and the last padding bit of a row of 10 pixels. -/
theorem witness_RasterBodyBitIsTheSourcePixel :
    ∃ dw dh x y : Nat, y < dh ∧ x < 8 * ((dw + 7) / 8) ∧ dw = 10 ∧ y + 1 = dh ∧ x = 15 :=
  ⟨10, 4, 15, 3, by decide, by decide, rfl, rfl, rfl⟩

theorem witness_ScaledSizesAndLineLength : (∃ n : Nat, n < 65536 ∧ n = 65535) ∧ ∃ dw : Nat, 1 ≤ dw ∧ dw = 1 :=
  ⟨⟨_, by decide, rfl⟩, ⟨_, by decide, rfl⟩⟩

theorem witness_EveryPixelReadIsInsideTheImage :
    (∃ n d x : Nat, 0 < n ∧ x < d ∧ n = 5 ∧ d = 7 ∧ x = 6) ∧ (∃ n x : Nat, x < n) ∧
    ∃ n f x : Nat, 0 < f ∧ x < n * f ∧ f = 2 ∧ x + 1 = n * f :=
  ⟨⟨5, 7, 6, by decide, by decide, rfl, rfl, rfl⟩, ⟨1, 0, by decide⟩, ⟨3, 2, 5, by decide, by decide, rfl, rfl⟩⟩

/-- Two images that differ in a colour that is not ink. -/
theorem witness_OnlyInkInsideTheImageMatters :
    ∃ (s t : State) (img : Memory 24), img ≠ s.img ∧
      (∀ x y, x < 1 → y < 1 → (readPixel img x y = 0x000000#24 ↔ readPixel s.img x y = 0x000000#24)) ∧
      exec (.printImage 1 1 0x0100#16 0x0100#16) s = .next t :=
  ⟨opened [.ok, .ok, .ok] 0, _, [(0, 0x000001#24)], by decide,
   fun x y hx hy => by obtain rfl : x = 0 := by omega
                       obtain rfl : y = 0 := by omega
                       decide, rfl⟩

theorem witness_OpenFollowsTheTransportsAnswer :
    (∃ r : Request, r.latches.op = 0x20#8) ∧ (∃ s : State, s.sess = .opened) ∧
    (∃ (s : State) (os : List Reply), s.sess = .closed ∧ s.openReplies = .ok :: os) ∧
    ∃ (s : State) (os : List Reply), s.sess = .closed ∧ s.openReplies = .fail :: os :=
  ⟨tag_met _, ⟨opened [] 0, rfl⟩, ⟨{ State.reset with openReplies := [.ok] }, _, rfl, rfl⟩,
   { State.reset with openReplies := [.fail] }, _, rfl, rfl⟩

theorem witness_OpenWaitsForItsAnswer : ∃ s : State, s.sess = .closed ∧ s.openReplies = [] := ⟨State.reset, rfl, rfl⟩

theorem witness_CloseReleasesTheTransportOnce :
    (∃ r : Request, r.latches.op = 0x21#8) ∧ (∃ s : State, s.sess = .opened) ∧ ∃ s : State, s.sess = .closed :=
  ⟨tag_met _, ⟨opened [] 0, rfl⟩, ⟨State.reset, rfl⟩⟩

theorem witness_SessionGate :
    (∃ (i : Instr) (s : State), (∀ sw sh scale dark, i ≠ .printImage sw sh scale dark) ∧
      (∀ ident, i ≠ .openSession ident) ∧ i ≠ .closeSession ∧ s.sess = .closed) ∧
    (∃ (i : Instr) (s t : State) (es : List Event), (∀ sw sh scale dark, i ≠ .printImage sw sh scale dark) ∧
      (∀ ident, i ≠ .openSession ident) ∧ i ≠ .closeSession ∧ s.sess = .opened ∧ exec i s = .next t ∧
      t.history = s.history ++ es) ∧
    (∃ s : State, s.sess = .opened) ∧
    (∃ (s t : State) (es : List Event), s.sess = .closed ∧ exec (.openSession []) s = .next t ∧
      t.history = s.history ++ es) ∧
    ∃ s t : State, exec .closeSession s = .next t :=
  ⟨⟨.feed, State.reset, by simp, by simp, by simp, rfl⟩,
   ⟨.feed, opened [.ok] 0, _, _, by simp, by simp, by simp, rfl, rfl, rfl⟩, ⟨opened [] 0, rfl⟩,
   ⟨State.reset, _, [], rfl, rfl, rfl⟩, ⟨State.reset, _, rfl⟩⟩

theorem witness_ErrorsBeforeTheFirstWriteArePrecise :
    (∃ (i : Instr) (s t : State) (es : List Event), exec i s = .next t ∧
      t.history = s.history ++ es ++ [.result .usageError]) ∧
    ∃ (i : Instr) (s t : State) (es : List Event), exec i s = .next t ∧
      t.history = s.history ++ es ++ [.result .transportUnavailable] :=
  ⟨⟨.feed, State.reset, _, [], rfl, rfl⟩,
   ⟨.openSession [], { State.reset with openReplies := [.fail] }, _, [.tOpen [] .fail], rfl, rfl⟩⟩

theorem witness_FirstFailedWriteEndsTheRequest :
    ∃ (i : Instr) (s t : State) (es before after : List Event) (seg : List Byte), exec i s = .next t ∧
      t.history = s.history ++ es ∧ es = before ++ .write seg .fail :: after ∧ .result .transportWriteError ∈ es :=
  ⟨.feed, opened [.fail] 0, _, _, [], _, _, rfl, rfl, rfl, by simp⟩

theorem witness_ResultIsWrittenOnceAtCompletion :
    (∃ (i : Instr) (s t : State), exec i s = .next t ∧ t.seq = .idle) ∧
    ∃ (i : Instr) (s t : State), exec i s = .next t ∧ t.seq ≠ .idle :=
  ⟨⟨.feed, opened [.ok] 0, _, rfl, rfl⟩, ⟨.feed, opened [] 0, _, rfl, by decide⟩⟩

theorem witness_CfgFieldsHaveTheirOwnWriters :
    ∃ (i : Instr) (s t : State) (f : CfgField), exec i s = .next t ∧ f ∉ fieldsWritten i ∧ t.cfg ≠ s.cfg :=
  ⟨.setAlign 1#8, opened [.ok] 0, _, .bold, rfl, by decide, by decide⟩

/-- Two states with different `CFG`, history and latches. -/
theorem witness_OutputDependsOnParametersAlone :
    ∃ (i : Instr) (s s' t t' : State), s.sess = s'.sess ∧ s.img = s'.img ∧ s.bcd = s'.bcd ∧ s.tWritable = s'.tWritable ∧
      s.openReplies = s'.openReplies ∧ s.writeReplies = s'.writeReplies ∧ s.waitEnds = s'.waitEnds ∧
      exec i s = .next t ∧ exec i s' = .next t' ∧ s.cfg ≠ s'.cfg ∧ s.history ≠ s'.history :=
  ⟨.feed, opened [.ok] 0, { opened [.ok] 0 with cfg := { exCfg with bold := true }, history := [.result .ok] }, _, _, rfl,
   rfl, rfl, rfl, rfl, rfl, rfl, rfl, rfl, by decide, by decide⟩

theorem witness_FrameOfEveryRequest : ∃ (i : Instr) (s t : State), exec i s = .next t ∧
    (∀ ident, i ≠ .openSession ident) ∧ i ≠ .closeSession :=
  ⟨.feed, opened [.ok] 0, _, rfl, by simp, by simp⟩

theorem witness_TransportIsWrittenOnlyWhileOpen :
    (∃ (i : Instr) (s t : State) (es : List Event) (seg : List Byte) (reply : Reply), exec i s = .next t ∧
      t.history = s.history ++ es ∧ .write seg reply ∈ es) ∧
    ∃ (i : Instr) (s t : State) (es : List Event), exec i s = .next t ∧ t.history = s.history ++ es ∧ .wait ∈ es :=
  ⟨⟨.feed, opened [.ok] 0, _, _, [0x0A#8], .ok, rfl, rfl, by decide⟩, ⟨.reset, opened [.ok] 1, _, _, rfl, rfl, by decide⟩⟩

theorem witness_WaitsOccurOnlyInThreeRequests :
    ∃ (i : Instr) (s t : State) (es : List Event), exec i s = .next t ∧ t.history = s.history ++ es ∧ .wait ∈ es :=
  ⟨.reset, opened [.ok] 1, _, _, rfl, rfl, by decide⟩

theorem witness_RunsOnlyExtendTheHistory :
    ∃ (k : Nat) (s t : State), Host.Core.run core k s = .next t ∧ k = 2 ∧ t.history ≠ s.history :=
  ⟨2, good [.request (fullRequest 0x08#8), .request (fullRequest 0x0B#8)], _, rfl, rfl, by decide⟩

theorem witness_SentBytesReadBackThroughTheTable : ∃ i : Instr, fixedLength i = true ∧ asSent i ≠ i :=
  ⟨.setLeftBlank 200#8, rfl, by decide⟩

/-- A barcode, an image and a feed make a stream. -/
theorem witness_WireStreamCutsBackIntoDirectives :
    ∃ ds : List (List Byte), (∀ d ∈ ds, IsDirectiveBytes d) ∧ ds.length = 3 := by
  refine ⟨[sentBytes (microsOf (.printBarcode 4#8 1) (good [])),
           sentBytes (microsOf (.printImage 3 2 0x0200#16 0x0100#16) (good [])),
           sentBytes (microsOf .feed (good []))], ?_, rfl⟩
  intro d hd
  simp only [List.mem_cons, List.not_mem_nil, or_false] at hd
  obtain rfl | rfl | rfl := hd
  · refine ⟨.printBarcode 4#8 1, good [], fun j hj => ?_, rfl⟩
    obtain rfl : j = 0 := by omega
    decide
  · exact ⟨.printImage 3 2 0x0200#16 0x0100#16, good [], rfl, rfl⟩
  · exact ⟨.feed, good [], trivial, rfl⟩

end Sys2Proof.Tests
end

section
/-! PROOFS of the family 10_state. First the layer its proofs share: how `exec` starts a request's moves, and which moves
an instruction has. -/

open Sys2Proof Sys2Proof.Machine Sys2Proof.Statements

namespace Sys2Proof.Machine

/-! ### `exec` as an equation -/

/-- The code with which a request is turned away before its first move, if it is (R252, R262). -/
def refusal (i : Instr) (sess : Session) (tWritable : Bool) : Option ResultCode :=
  match i, sess, tWritable with
  | .printImage sw sh scale _, .opened, true => imageFault sw sh scale
  | .printImage _ _ _ _, _, _ => some .notReady
  | .openSession _, .opened, _ => some .usageError
  | .openSession _, .closed, _ => none
  | .closeSession, _, _ => none
  | _, .closed, _ => some .usageError
  | _, .opened, _ => none

/-- The state in which a request other than Close leaves the block: turned away, or where its moves lead. -/
def course (i : Instr) (s : State) : State :=
  match refusal i s.sess s.tWritable with
  | some c => s.finish c
  | none => runMicros (microsOf i s) s

theorem exec_eq_course_of_gated {i : Instr} {s : State} (he : exec i s = gated (microsOf i s) s)
    (hc : refusal i .closed s.tWritable = some .usageError) (ho : refusal i .opened s.tWritable = none) :
    exec i s = .next (course i s) := by
  obtain ⟨hs, hg⟩ | ⟨hs, hg⟩ := exec_gated i s he
  · rw [hg, course, hs, hc, raise_eq_finish]
  · rw [hg, course, hs, ho]

theorem exec_eq_course {i : Instr} (s : State) (hc : i ≠ .closeSession) : exec i s = .next (course i s) := by
  cases i with
  | closeSession => exact absurd rfl hc
  | printImage sw sh scale dark =>
    cases hs : s.sess <;> cases hw : s.tWritable <;>
      simp only [course, exec, execPrintImage, printReady, refusal, hs, hw, microsOf, raise_eq_finish, Bool.false_eq_true,
        if_true, if_false]
    cases imageFault sw sh scale <;> rfl
  | openSession ident => cases hs : s.sess <;> simp only [course, exec, execOpenSession, refusal, hs, raise_eq_finish, microsOf]
  | _ => exact exec_eq_course_of_gated rfl rfl rfl

theorem course_of_refused {i : Instr} {s : State} {c : ResultCode} (h : refusal i s.sess s.tWritable = some c) :
    course i s = s.finish c := by
  simp [course, h]

theorem course_of_admitted {i : Instr} {s : State} (h : refusal i s.sess s.tWritable = none) :
    course i s = runMicros (microsOf i s) s := by
  simp [course, h]

/-- What a request reads of the state to find its moves: the stores alone. -/
theorem microsOf_congr (i : Instr) {s t : State} (himg : s.img = t.img) (hbcd : s.bcd = t.bcd) :
    microsOf i s = microsOf i t := by
  cases i <;> simp only [microsOf, himg, hbcd]

/-! ### The `CFG` writes among an instruction's moves -/

/-- An operation the block asks for while Open: any but `TOpen` (R58, R240, R270). -/
def Act.whileOpen : Act → Bool
  | .segment _ => true
  | .wait => true
  | .tOpen _ => false

/-- An instruction that is one directive of fields and items: all but PrintImage and the three session requests. -/
def isDirective : Instr → Bool
  | .printImage _ _ _ _ | .openSession _ | .closeSession | .initSequence => false
  | _ => true

/-- The moves of a directive: its fields first, then a segment, then only segments and waits. -/
theorem microsOf_directive {i : Instr} (h : isDirective i = true) (s : State) :
    ∃ bytes as, microsOf i s = Directive.micros ⟨fieldsFirst i, .segment bytes :: as⟩ ∧ as.all Act.whileOpen = true := by
  cases i with
  | printImage _ _ _ _ | openSession _ | closeSession | initSequence => cases h
  | _ => exact ⟨_, _, rfl, rfl⟩

/-- The directives of Init as instructions (R190). -/
def initInstrs : List Instr := [
  .reset, .setStatus Config.online,
  .setControlParameter Config.defHeatDots Config.defHeatTime Config.defHeatInterval,
  .setPrintDensity Config.defDensity Config.defBreak, .setSleepTime Config.defSleep,
  .setCodeTable Config.defCodetable, .setCharacterSet Config.defCharset, .setBarcodeReadablePosition Config.defBcPos ]

theorem initSteps_writes : initSteps.map Directive.writes = initInstrs.map fieldsFirst := rfl

theorem initInstrs_fieldsWritten : ∀ j ∈ initInstrs, fieldsWritten j ⊆ fieldsWritten .initSequence := by
  simp [initInstrs, fieldsWritten]

theorem write_notMem_place (mk : Nat → SeqPos) (k : Nat) (as : List Act) (w : Cfg → Cfg) :
    .write w ∉ place mk k as := by
  induction as generalizing k with
  | nil => simp [place]
  | cons a as ih => simp [place, ih]

theorem write_mem_micros {d : Directive} {w : Cfg → Cfg} : .write w ∈ d.micros ↔ w = d.writes := by
  simp [Directive.micros, write_notMem_place]

theorem write_mem_placeSteps {ds : List Directive} {j : Nat} {w : Cfg → Cfg} :
    .write w ∈ placeSteps j ds ↔ w ∈ ds.map Directive.writes := by
  induction ds generalizing j with
  | nil => simp [placeSteps]
  | cons d ds ih => simp [placeSteps, write_notMem_place, ih]

/-- Every `CFG` write of a request is the field write of one directive, whose fields are among the request's (R27, R28). -/
theorem write_mem_microsOf {i : Instr} {s : State} {w : Cfg → Cfg} (h : .write w ∈ microsOf i s) :
    ∃ j, w = fieldsFirst j ∧ fieldsWritten j ⊆ fieldsWritten i := by
  cases hd : isDirective i with
  | true =>
    obtain ⟨bytes, as, hm, -⟩ := microsOf_directive hd s
    rw [hm, write_mem_micros] at h
    exact ⟨i, h, List.Subset.refl _⟩
  | false =>
    cases i with
    | printImage sw sh scale dark =>
      cases hf : imageFault sw sh scale <;> simp [microsOf, hf, rasterMicros] at h
    | openSession ident => simp [microsOf, openMicros] at h
    | closeSession => simp [microsOf] at h
    | initSequence =>
      simp only [microsOf, write_mem_placeSteps, initSteps_writes, List.mem_map] at h
      obtain ⟨j, hj, rfl⟩ := h
      exact ⟨j, rfl, initInstrs_fieldsWritten j hj⟩
    | _ => cases hd

/-- A directive's field write leaves every field alone that is not among its own. -/
theorem fieldsFirst_get {i : Instr} {f : CfgField} (h : f ∉ fieldsWritten i) (c : Cfg) :
    (fieldsFirst i c).get f = c.get f := by
  cases i with
  | reset | setStatus _ | setDoubleWidthOn | setDoubleWidthOff | feed | feedN _ | setLineSpacing _ | setKeyPanel _
  | printBarcode _ _ | printImage _ _ _ _ | openSession _ | closeSession | initSequence => rfl
  | _ => cases f <;> simp [fieldsFirst, fieldsWritten, Cfg.get] at h ⊢

/-! ### The operations among an instruction's moves -/

theorem act_mem_place {mk : Nat → SeqPos} {k : Nat} {as : List Act} {p : SeqPos} {a : Act}
    (h : .act p a ∈ place mk k as) : a ∈ as := by
  induction as generalizing k with
  | nil => simp [place] at h
  | cons b as ih =>
    rcases List.mem_cons.mp h with heq | h
    · cases heq; exact List.mem_cons_self
    · exact List.mem_cons_of_mem _ (ih h)

theorem act_mem_placeSteps {ds : List Directive} {j : Nat} {p : SeqPos} {a : Act} (h : .act p a ∈ placeSteps j ds) :
    ∃ d ∈ ds, a ∈ d.acts := by
  induction ds generalizing j with
  | nil => simp [placeSteps] at h
  | cons d ds ih =>
    simp only [placeSteps, List.mem_cons, reduceCtorEq, List.mem_append, false_or] at h
    rcases h with h | h
    · exact ⟨d, List.mem_cons_self, act_mem_place h⟩
    · obtain ⟨d', hd', ha⟩ := ih h
      exact ⟨d', List.mem_cons_of_mem _ hd', ha⟩

theorem initSteps_whileOpen : ∀ d ∈ initSteps, ∀ a ∈ d.acts, a.whileOpen = true := by
  have h : initSteps.all (fun d => d.acts.all Act.whileOpen) = true := rfl
  simpa using h

/-- Only Open asks for a `TOpen` (R60, R240). -/
theorem act_whileOpen {i : Instr} {s : State} {p : SeqPos} {a : Act} (ho : ¬ ∃ ident, i = .openSession ident)
    (h : .act p a ∈ microsOf i s) : a.whileOpen = true := by
  cases hd : isDirective i with
  | true =>
    obtain ⟨bytes, as, hm, hw⟩ := microsOf_directive hd s
    simp only [hm, Directive.micros, List.mem_cons, reduceCtorEq, false_or] at h
    rcases List.mem_cons.mp (act_mem_place h) with rfl | ha
    · rfl
    · exact List.all_eq_true.mp hw a ha
  | false =>
    cases i with
    | printImage sw sh scale dark =>
      cases hf : imageFault sw sh scale <;> simp only [microsOf, hf, rasterMicros] at h
      · simp only [List.mem_cons, Micro.act.injEq, List.not_mem_nil, or_false] at h
        obtain ⟨-, rfl⟩ | ⟨-, rfl⟩ | ⟨-, rfl⟩ := h <;> rfl
      · cases h
    | openSession ident => exact absurd ⟨ident, rfl⟩ ho
    | closeSession => cases h
    | initSequence =>
      obtain ⟨d, hmem, ha⟩ := act_mem_placeSteps h
      exact initSteps_whileOpen d hmem a ha
    | _ => cases hd

/-! ### The positions of an instruction's operations (R24) -/

/-- The positions of `SEQ` at which a list of moves has an operation, in order. -/
def positions : List Micro → List SeqPos
  | [] => []
  | .write _ :: ms => positions ms
  | .act p _ :: ms => p :: positions ms

theorem mem_positions {ms : List Micro} {p : SeqPos} {a : Act} (h : .act p a ∈ ms) : p ∈ positions ms := by
  induction ms with
  | nil => cases h
  | cons m ms ih =>
    rcases List.mem_cons.mp h with rfl | hms
    · exact List.mem_cons_self
    · cases m with
      | write f => exact ih hms
      | act q b => exact List.mem_cons_of_mem _ (ih hms)

theorem positions_append (ms ns : List Micro) : positions (ms ++ ns) = positions ms ++ positions ns := by
  induction ms with
  | nil => rfl
  | cons m ms ih => cases m <;> simp [positions, ih]

theorem positions_place (mk : Nat → SeqPos) (k : Nat) (as : List Act) :
    positions (place mk k as) = (List.range' k as.length).map mk := by
  induction as generalizing k with
  | nil => rfl
  | cons a as ih => simp [place, positions, ih, List.range'_succ]

/-- The positions of a request: `Item(0)`, `Item(1)`, …; the three segments of a raster; or those of Init (R24). -/
theorem positions_microsOf (i : Instr) (s : State) :
    (∃ n, positions (microsOf i s) = (List.range' 0 n).map .item) ∨
    positions (microsOf i s) = [.raster .header, .raster (.body 0 0), .raster .trailer] ∨
    positions (microsOf i s) = [.init 0 0, .init 0 1, .init 1 0, .init 2 0, .init 3 0, .init 4 0, .init 4 1, .init 4 2,
      .init 5 0, .init 6 0, .init 7 0] := by
  cases hd : isDirective i with
  | true =>
    obtain ⟨bytes, as, hm, -⟩ := microsOf_directive hd s
    exact .inl ⟨_, by rw [hm]; exact positions_place .item 0 _⟩
  | false =>
    cases i with
    | printImage sw sh scale dark =>
      cases hf : imageFault sw sh scale with
      | none => exact .inr (.inl (by simp only [microsOf, hf]; rfl))
      | some c => exact .inl ⟨0, by simp only [microsOf, hf]; rfl⟩
    | openSession ident => exact .inl ⟨1, rfl⟩
    | closeSession => exact .inl ⟨0, rfl⟩
    | initSequence => exact .inr (.inr rfl)
    | _ => cases hd

/-- No operation of a request stands at `Idle`: while one waits the block is busy. -/
theorem idle_notMem_positions (i : Instr) (s : State) : .idle ∉ positions (microsOf i s) := by
  obtain ⟨n, h⟩ | h | h := positions_microsOf i s <;> simp [h]

theorem act_ne_idle {i : Instr} {s : State} {p : SeqPos} {a : Act} (h : .act p a ∈ microsOf i s) : p ≠ .idle :=
  fun hp => idle_notMem_positions i s (hp ▸ mem_positions h)

/-- No two operations of a request stand at the same item, so the position tells where it goes on. -/
theorem positions_distinct (i : Instr) (s : State) :
    (positions (microsOf i s)).Pairwise (fun p q => p.sameItem q = false) := by
  obtain ⟨n, h⟩ | h | h := positions_microsOf i s
  · rw [h, List.pairwise_map]
    refine List.Pairwise.imp (fun {k l} hne => ?_) (List.nodup_range' (s := 0) (n := n))
    simpa [SeqPos.sameItem] using hne
  · rw [h]; decide
  · rw [h]; decide

/-! ### Going on from a position -/

@[simp] theorem SeqPos.sameItem_self (p : SeqPos) : p.sameItem p = true := by
  rcases p with _ | _ | _ | (_ | _ | _) <;> simp [SeqPos.sameItem]

theorem fromPosition_suffix (p : SeqPos) (ms : List Micro) : fromPosition p ms <:+ ms := by
  induction ms with
  | nil => exact List.suffix_refl _
  | cons m ms ih =>
    cases m with
    | write f => exact ih.trans (List.suffix_cons _ _)
    | act q a =>
      cases hq : q.sameItem p with
      | true => simp [fromPosition, hq]
      | false => simpa [fromPosition, hq] using ih.trans (List.suffix_cons _ _)

/-- Past the operations at other items, the moves from an operation's position on begin with it. -/
theorem fromPosition_append {pre : List Micro} {p : SeqPos} (a : Act) (post : List Micro)
    (h : ∀ q ∈ positions pre, q.sameItem p = false) :
    fromPosition p (pre ++ .act p a :: post) = .act p a :: post := by
  induction pre with
  | nil => simp [fromPosition]
  | cons m pre ih =>
    cases m with
    | write f => exact ih h
    | act q b =>
      obtain ⟨hq, h⟩ := List.forall_mem_cons.mp h
      simp [fromPosition, hq, ih h]

/-- When a request waits at an operation of its moves, what is left of it begins with that operation. -/
theorem fromPosition_microsOf {i : Instr} {s : State} {pre post : List Micro} {p : SeqPos} {a : Act}
    (h : microsOf i s = pre ++ .act p a :: post) : fromPosition p (microsOf i s) = .act p a :: post := by
  have hd := positions_distinct i s
  rw [h, positions_append, List.pairwise_append] at hd
  rw [h]
  exact fromPosition_append a post fun q hq => hd.2.2 q hq p List.mem_cons_self

theorem pendingMicros_of_decode {s : State} {i : Instr} (h : decode { latches := s.latches, ident := s.ident } = .ok i) :
    pendingMicros s = fromPosition s.seq (microsOf i s) := by
  simp [pendingMicros, h]

/-! ### Runs of moves -/

theorem runMicros_done {a : Act} {p : SeqPos} {s t : State} (ms : List Micro) (h : perform a (s.moveTo p) = .done t) :
    runMicros (.act p a :: ms) s = runMicros ms t := by
  simp [runMicros, h]

theorem runMicros_failed {a : Act} {p : SeqPos} {s t : State} {e : ResultCode} (ms : List Micro)
    (h : perform a (s.moveTo p) = .failed e t) : runMicros (.act p a :: ms) s = t.finish e := by
  simp [runMicros, h]

theorem runMicros_unanswered {a : Act} {p : SeqPos} {s : State} (ms : List Micro)
    (h : perform a (s.moveTo p) = .unanswered) : runMicros (.act p a :: ms) s = s.moveTo p := by
  simp [runMicros, h]

/-! Each operation with the answer it gets. -/

theorem perform_segment_ok {s : State} {rest : List Reply} (bytes : List Byte) (h : s.writeReplies = .ok :: rest) :
    perform (.segment bytes) s = .done { s with writeReplies := rest, history := s.history ++ [.write bytes .ok] } := by
  simp [perform, h, State.record]

theorem perform_segment_fail {s : State} {rest : List Reply} (bytes : List Byte) (h : s.writeReplies = .fail :: rest) :
    perform (.segment bytes) s =
      .failed .transportWriteError { s with writeReplies := rest, history := s.history ++ [.write bytes .fail] } := by
  simp [perform, h, State.record]

theorem perform_wait {s : State} {n : Nat} (h : s.waitEnds = n + 1) :
    perform .wait s = .done { s with waitEnds := n, history := s.history ++ [.wait] } := by
  simp [perform, h, State.record]

theorem perform_tOpen_ok {s : State} {rest : List Reply} (ident : Ident) (h : s.openReplies = .ok :: rest) :
    perform (.tOpen ident) s =
      .done { s with openReplies := rest, sess := .opened, history := s.history ++ [.tOpen ident .ok] } := by
  simp [perform, h, State.record]

theorem perform_tOpen_fail {s : State} {rest : List Reply} (ident : Ident) (h : s.openReplies = .fail :: rest) :
    perform (.tOpen ident) s =
      .failed .transportUnavailable { s with openReplies := rest, history := s.history ++ [.tOpen ident .fail] } := by
  simp [perform, h, State.record]

/-- The neighbour has answered the operation, done or failed, and left the state `t`. -/
def Answered (a : Act) (s t : State) : Prop := perform a s = .done t ∨ ∃ e, perform a s = .failed e t

/-- An operation answered while Open: a segment write with its reply, or a wait that ended. -/
theorem answered_whileOpen {a : Act} {s t : State} (ha : a.whileOpen = true) (h : Answered a s t) :
    (∃ bytes reply rest, t = { s with writeReplies := rest, history := s.history ++ [.write bytes reply] }) ∨
    (∃ n, t = { s with waitEnds := n, history := s.history ++ [.wait] }) := by
  obtain h | ⟨e, h⟩ := h
  · obtain ⟨bytes, rest, -, -, rfl⟩ | ⟨n, -, -, rfl⟩ | ⟨ident, rest, rfl, -⟩ := perform_done h
    · exact .inl ⟨bytes, .ok, rest, rfl⟩
    · exact .inr ⟨n, rfl⟩
    · cases ha
  · obtain ⟨bytes, rest, -, -, -, rfl⟩ | ⟨ident, rest, rfl, -⟩ := perform_failed h
    · exact .inl ⟨bytes, .fail, rest, rfl⟩
    · cases ha

theorem answered_cfg {a : Act} {s t : State} (h : Answered a s t) : t.cfg = s.cfg := by
  obtain h | ⟨e, h⟩ := h
  · obtain ⟨_, _, _, _, rfl⟩ | ⟨_, _, _, rfl⟩ | ⟨_, _, _, _, rfl⟩ := perform_done h <;> rfl
  · obtain ⟨_, _, _, _, _, rfl⟩ | ⟨_, _, _, _, _, rfl⟩ := perform_failed h <;> rfl

/-- What each move of a list keeps, the run of the list keeps. -/
theorem runMicros_preserves {P : State → Prop} {ms : List Micro} {s : State}
    (hmove : ∀ p s, P s → P (s.moveTo p)) (hfinish : ∀ c s, P s → P (s.finish c))
    (hwrite : ∀ w, .write w ∈ ms → ∀ s, P s → P (s.configure w))
    (hact : ∀ p a, .act p a ∈ ms → ∀ s t, P s → Answered a s t → P t) (hs : P s) : P (runMicros ms s) := by
  induction ms generalizing s with
  | nil => exact hfinish .ok s hs
  | cons m ms ih =>
    have ih {u : State} : P u → P (runMicros ms u) :=
      ih (fun w hw => hwrite w (List.mem_cons_of_mem _ hw)) (fun p a ha => hact p a (List.mem_cons_of_mem _ ha))
    cases m with
    | write w => exact ih (hwrite w List.mem_cons_self s hs)
    | act p a =>
      have hm := hmove p s hs
      have ht {t : State} (h : Answered a (s.moveTo p) t) : P t := hact p a List.mem_cons_self _ t hm h
      cases hp : perform a (s.moveTo p) with
      | done t => rw [runMicros_done ms hp]; exact ih (ht (.inl hp))
      | failed e t => rw [runMicros_failed ms hp]; exact hfinish e t (ht (.inr ⟨e, hp⟩))
      | unanswered => rw [runMicros_unanswered ms hp]; exact hm

/-- `CFG` is what the list's field writes make of it. -/
theorem runMicros_cfg {Q : Cfg → Prop} {ms : List Micro} {s : State} (hwrite : ∀ w, .write w ∈ ms → ∀ c, Q c → Q (w c))
    (hs : Q s.cfg) : Q (runMicros ms s).cfg :=
  runMicros_preserves (P := fun s => Q s.cfg) (fun _ _ h => h) (fun _ _ h => h) (fun w hw s => hwrite w hw s.cfg)
    (fun _ _ _ _ _ hs h => answered_cfg h ▸ hs) hs

/-- Segments and waits leave the session and the answers to opens alone. -/
theorem runMicros_session {ms : List Micro} {s : State} (hw : ∀ p a, .act p a ∈ ms → a.whileOpen = true) :
    (runMicros ms s).sess = s.sess ∧ (runMicros ms s).openReplies = s.openReplies := by
  refine runMicros_preserves (P := fun t => t.sess = s.sess ∧ t.openReplies = s.openReplies) (fun _ _ h => h)
    (fun _ _ h => h) (fun _ _ _ h => h) (fun p a ha u t hu h => ?_) ⟨rfl, rfl⟩
  obtain ⟨_, _, _, rfl⟩ | ⟨_, rfl⟩ := answered_whileOpen (hw p a ha) h <;> exact hu

/-- Open's one operation (R240): not answered, answered ok, or refused. -/
theorem runMicros_openMicros (ident : Ident) (s : State) :
    (s.openReplies = [] ∧ runMicros (openMicros ident) s = s.moveTo (.item 0)) ∨
    (∃ rest, s.openReplies = .ok :: rest ∧ runMicros (openMicros ident) s =
      { s with sess := .opened, openReplies := rest, res := .ok, seq := .idle,
               history := s.history ++ [.tOpen ident .ok, .result .ok] }) ∨
    (∃ rest, s.openReplies = .fail :: rest ∧ runMicros (openMicros ident) s =
      { s with openReplies := rest, res := .transportUnavailable, seq := .idle,
               history := s.history ++ [.tOpen ident .fail, .result .transportUnavailable] }) := by
  rcases h : s.openReplies with _ | ⟨_ | _, rest⟩
  · exact .inl ⟨rfl, by simp [openMicros, runMicros, perform, h]⟩
  · exact .inr (.inl ⟨rest, rfl, by simp [openMicros, runMicros, perform, h, State.record, State.finish, State.moveTo]⟩)
  · exact .inr (.inr ⟨rest, rfl, by simp [openMicros, runMicros, perform, h, State.record, State.finish, State.moveTo]⟩)

/-! ### The equations of `step` -/

theorem step_idle_nil {s : State} (hs : s.seq = .idle) (hi : s.inputs = []) : step s = .next s := by
  simp [step, takeStep, hs, hi]

theorem step_idle_request {s : State} {r : Request} {rest : List Input} (hs : s.seq = .idle)
    (hi : s.inputs = .request r :: rest) : step s = runRequest r { s with inputs := rest } := by
  simp [step, takeStep, hs, hi]

theorem step_idle_input {s : State} {input : Input} {rest : List Input} (hs : s.seq = .idle)
    (hi : s.inputs = input :: rest) (hn : ∀ r, input ≠ .request r) :
    step s = .next (applyInput input { s with inputs := rest }) := by
  cases input with
  | request r => exact absurd rfl (hn r)
  | _ => simp [step, takeStep, hs, hi]

theorem step_busy {s : State} (hs : s.seq ≠ .idle) : step s = resume s := by
  unfold step takeStep
  split
  next h => exact absurd h hs
  next => rfl

/-- A step of a busy block performs what is left of its request. -/
theorem step_busy_next {s t : State} (hs : s.seq ≠ .idle) (h : step s = .next t) :
    ∃ pos a ms, pendingMicros s = .act pos a :: ms ∧ t = runMicros (.act pos a :: ms) s := by
  rw [step_busy hs] at h
  obtain ⟨pos, a, ms, hp, -, hr⟩ | hr := resume_cases s
  · rw [hr] at h; cases h
    exact ⟨pos, a, ms, hp, rfl⟩
  · rw [hr] at h; cases h

theorem runRequest_ok {r : Request} {i : Instr} (h : decode r = .ok i) (s : State) :
    runRequest r s = exec i (accept r s) := by
  simp [runRequest, h]

theorem runRequest_error {r : Request} {e : DecodeError} (h : decode r = .error e) (s : State) :
    runRequest r s = .next ((accept r s).finish .illegalRequest) := by
  simp [runRequest, h, execIllegalRequest]

/-! ### The invariant (R29, R31, R58, R24) -/

theorem sessionAfter_append (x : Session) (es fs : List Event) :
    sessionAfter x (es ++ fs) = sessionAfter (sessionAfter x es) fs := by
  induction es generalizing x with
  | nil => rfl
  | cons e es ih => rcases e with ⟨_, _ | _⟩ | _ | _ | _ | _ <;> simp [sessionAfter, ih]

theorem transportOrdered_append (x : Session) (es fs : List Event) :
    transportOrdered x (es ++ fs) = (transportOrdered x es && transportOrdered (sessionAfter x es) fs) := by
  induction es generalizing x with
  | nil => rfl
  | cons e es ih =>
    rcases e with ⟨_, _ | _⟩ | _ | _ | _ | _ <;> simp [transportOrdered, sessionAfter, ih, Bool.and_assoc]

/-- A history extended by events that fit the session it has reached. -/
theorem State.transportKept.extend {s t : State} (es : List Event) (hs : s.transportKept)
    (hh : t.history = s.history ++ es) (ho : transportOrdered s.sess es = true)
    (hsess : sessionAfter s.sess es = t.sess) : t.transportKept := by
  obtain ⟨hafter, hordered⟩ := hs
  unfold State.transportKept
  rw [hh, sessionAfter_append, transportOrdered_append, hafter, hordered, ho, hsess]
  exact ⟨rfl, rfl⟩

/-- The part of the invariant that does not speak of a request in progress. -/
structure State.Sound (s : State) : Prop where
  cfgInRange : s.cfg.inRange
  closedHoldsDefaults : s.closedHoldsDefaults
  storesWf : s.storesWf
  transportKept : s.transportKept

theorem State.Inv.sound {s : State} (h : s.Inv) : s.Sound :=
  ⟨h.cfgInRange, h.closedHoldsDefaults, h.storesWf, h.transportKept⟩

theorem State.Sound.inv_of_idle {s : State} (h : s.Sound) (hs : s.seq = .idle) : s.Inv :=
  { h with busyInSession := absurd hs, busyHasPosition := absurd hs }

theorem State.Sound.finish {s : State} (h : s.Sound) (c : ResultCode) : (s.finish c).Sound :=
  { h with transportKept := h.transportKept.extend [.result c] rfl rfl rfl }

theorem State.Sound.accept {s : State} (h : s.Sound) (r : Request) : (accept r s).Sound := { h with }

theorem State.Sound.dropInput {s : State} (h : s.Sound) (rest : List Input) : { s with inputs := rest }.Sound := { h with }

theorem State.Sound.applyInput {s : State} (h : s.Sound) (input : Input) : (applyInput input s).Sound := by
  obtain ⟨himg, hbcd⟩ := h.storesWf
  cases input with
  | request r => exact h
  | pixel x y p => exact { h with storesWf := ⟨Memory.write_wf _ _ himg, hbcd⟩ }
  | barcodeByte i b => exact { h with storesWf := ⟨himg, Memory.write_wf _ _ hbcd⟩ }
  | writable level => exact { h with }

theorem applyInput_seq (input : Input) (s : State) : (applyInput input s).seq = s.seq := by
  cases input <;> rfl

/-- R9: the defaults meet the three ranges. -/
theorem Cfg.defaults_inRange : Cfg.defaults.inRange := by
  have hb := Config.defLeftBlankIndex.isLt
  have hh := Config.defBcHeightIndex.isLt
  refine ⟨?_, ?_, ?_⟩
  · simp only [defaults, Config.defLeftBlank, BitVec.toNat_ofNat]; omega
  · simp only [defaults, Config.defBcHeight, BitVec.toNat_ofNat]; omega
  · cases hw : Config.defBcWidthIsHi <;> simp [defaults, Config.defBcWidth, hw]

/-- R29: every directive's field write keeps the three ranges; the three fields with a range are clamped first (R96 to
R98). -/
theorem fieldsFirst_inRange (i : Instr) {c : Cfg} (h : c.inRange) : (fieldsFirst i c).inRange := by
  obtain ⟨hblank, hheight, hwidth⟩ := h
  cases i with
  | setLeftBlank n =>
    refine ⟨?_, hheight, hwidth⟩
    simp only [fieldsFirst, BitVec.toNat_ofNat]; omega
  | setBarcodeHeight n =>
    refine ⟨hblank, ?_, hwidth⟩
    have := n.isLt
    simp only [fieldsFirst, BitVec.toNat_ofNat]; omega
  | setBarcodeWidth w =>
    refine ⟨hblank, hheight, ?_⟩
    by_cases hw : w.toNat ≤ 2 <;> simp [fieldsFirst, hw]
  | _ => exact ⟨hblank, hheight, hwidth⟩

/-- Any part of a request's moves keeps the ranges of `CFG`. -/
theorem runMicros_inRange {i : Instr} {s u : State} {ms : List Micro} (hms : ms <:+ microsOf i u) (h : s.cfg.inRange) :
    (runMicros ms s).cfg.inRange := by
  refine runMicros_cfg (fun w hw c hc => ?_) h
  obtain ⟨j, rfl, -⟩ := write_mem_microsOf (hms.subset hw)
  exact fieldsFirst_inRange j hc

/-- Segments and waits are handed out while Open, and keep the Transport's order (R58). -/
theorem runMicros_transportKept {s : State} {ms : List Micro} (hw : ∀ p a, .act p a ∈ ms → a.whileOpen = true)
    (hs : s.sess = .opened) (h : s.transportKept) : (runMicros ms s).transportKept := by
  refine (runMicros_preserves (P := fun t => t.sess = .opened ∧ t.transportKept) (fun _ _ h => h) (fun c t ⟨ht, hk⟩ => ?_)
    (fun _ _ _ h => h) (fun p a ha t u ⟨ht, hk⟩ h => ?_) ⟨hs, h⟩).2
  · exact ⟨ht, hk.extend [.result c] rfl rfl rfl⟩
  · obtain ⟨bytes, reply, _, rfl⟩ | ⟨_, rfl⟩ := answered_whileOpen (hw p a ha) h
    · exact ⟨ht, hk.extend [.write bytes reply] rfl (by simp [transportOrdered, ht]) rfl⟩
    · exact ⟨ht, hk.extend [.wait] rfl (by simp [transportOrdered, ht]) rfl⟩

/-- Any part of the moves of a request other than Open leaves a sound state, still Open. -/
theorem runMicros_sound_of_opened {i : Instr} {s u : State} {ms : List Micro} (ho : ¬ ∃ ident, i = .openSession ident)
    (hms : ms <:+ microsOf i u) (hs : s.Sound) (hsess : s.sess = .opened) :
    (runMicros ms s).Sound ∧ (runMicros ms s).sess = .opened := by
  have hw : ∀ p a, .act p a ∈ ms → a.whileOpen = true := fun p a h => act_whileOpen ho (hms.subset h)
  have hopen : (runMicros ms s).sess = .opened := (runMicros_session hw).1.trans hsess
  have hout := runMicros_outside ms s
  refine ⟨⟨runMicros_inRange hms hs.cfgInRange, fun hc => ?_, ?_, runMicros_transportKept hw hsess hs.transportKept⟩, hopen⟩
  · rw [hopen] at hc; cases hc
  · unfold State.storesWf
    rw [hout.img, hout.bcd]
    exact hs.storesWf

/-- Open's moves, from a Closed state, leave a sound state, and a Closed one while the answer is missing. -/
theorem runMicros_sound_of_closed {ident : Ident} {s : State} (hs : s.Sound) (hsess : s.sess = .closed) :
    (runMicros (openMicros ident) s).Sound ∧
      ((runMicros (openMicros ident) s).seq ≠ .idle → (runMicros (openMicros ident) s).sess = .closed) := by
  obtain ⟨-, hr⟩ | ⟨rest, -, hr⟩ | ⟨rest, -, hr⟩ := runMicros_openMicros ident s <;> rw [hr]
  · exact ⟨{ hs with }, fun _ => hsess⟩
  · refine ⟨{ hs with closedHoldsDefaults := nofun, transportKept := ?_ }, absurd rfl⟩
    exact hs.transportKept.extend _ rfl (by simp [transportOrdered, hsess]) rfl
  · refine ⟨{ hs with transportKept := ?_ }, absurd rfl⟩
    exact hs.transportKept.extend _ rfl (by simp [transportOrdered, hsess]) (by simp [sessionAfter])

/-- A request that is under way, begun now or gone on with, leaves a state that meets the invariant. -/
theorem runMicros_inv {i : Instr} {s : State} {ms : List Micro} (hs : s.Sound)
    (hi : decode { latches := s.latches, ident := s.ident } = .ok i)
    (hsess : s.sess = .closed ↔ ∃ ident, i = .openSession ident) (hms : ms <:+ microsOf i s) : (runMicros ms s).Inv := by
  have hout := runMicros_outside ms s
  have hit : decode { latches := (runMicros ms s).latches, ident := (runMicros ms s).ident } = .ok i := by
    rw [hout.latches, hout.ident]; exact hi
  have hrun : (runMicros ms s).Sound ∧
      ((runMicros ms s).seq ≠ .idle → ((runMicros ms s).sess = .closed ↔ ∃ ident, i = .openSession ident)) := by
    by_cases ho : ∃ ident, i = .openSession ident
    · have hc := hsess.mpr ho
      obtain ⟨ident, rfl⟩ := ho
      obtain rfl | hms := List.suffix_cons_iff.mp hms
      · obtain ⟨hsound, hclosed⟩ := runMicros_sound_of_closed (ident := ident) hs hc
        exact ⟨hsound, fun hb => iff_of_true (hclosed hb) ⟨ident, rfl⟩⟩
      · obtain rfl := List.suffix_nil.mp hms
        exact ⟨hs.finish .ok, absurd rfl⟩
    · have hopen : s.sess = .opened := by
        cases h : s.sess with
        | closed => exact absurd (hsess.mp h) ho
        | opened => rfl
      obtain ⟨hsound, hsess⟩ := runMicros_sound_of_opened ho hms hs hopen
      exact ⟨hsound, fun _ => by simp [hsess, ho]⟩
  obtain ⟨hsound, hbusy⟩ := hrun
  refine { hsound with busyInSession := fun hb => ?_, busyHasPosition := fun hb => ?_ }
  · rw [hit]; simpa using hbusy hb
  · obtain ⟨_, _, _, hidle, -⟩ | ⟨_, pos, a, hmem, hpos, -⟩ := runMicros_ends ms s
    · exact absurd hidle hb
    · rw [pendingMicros_of_decode hit, hpos, microsOf_congr i hout.img hout.bcd]
      obtain ⟨pre, post, hsplit⟩ := List.append_of_mem (hms.subset hmem)
      rw [fromPosition_microsOf hsplit]
      simp

/-- A request begun in a sound Idle state leaves a state that meets the invariant. -/
theorem exec_inv {i : Instr} {s t : State} (hs : s.Sound)
    (hi : decode { latches := s.latches, ident := s.ident } = .ok i) (h : exec i s = .next t) : t.Inv := by
  obtain ⟨c, -, he⟩ | ⟨he, -, hsess⟩ | ⟨-, -, he⟩ | ⟨-, hopen, he⟩ := exec_cases i s <;> rw [he] at h <;> cases h
  · exact (hs.finish c).inv_of_idle rfl
  · exact runMicros_inv hs hi hsess (List.suffix_refl _)
  · exact (hs.finish .ok).inv_of_idle rfl
  · have hclosed : (State.record .tClose { s with sess := .closed, cfg := Cfg.defaults }).Sound :=
      { hs with
        cfgInRange := Cfg.defaults_inRange
        closedHoldsDefaults := fun _ => rfl
        transportKept := hs.transportKept.extend [.tClose] rfl (by simp [transportOrdered, hopen]) rfl }
    exact (hclosed.finish .ok).inv_of_idle rfl

theorem runRequest_inv {r : Request} {s t : State} (hs : s.Sound) (h : runRequest r s = .next t) : t.Inv := by
  cases hd : decode r with
  | ok i => rw [runRequest_ok hd] at h; exact exec_inv (hs.accept r) hd h
  | error e => rw [runRequest_error hd] at h; cases h; exact ((hs.accept r).finish _).inv_of_idle rfl

/-- A busy block that meets the invariant holds a request with its session and position. -/
theorem resume_inv {s t : State} (hs : s.Inv) (hbusy : s.seq ≠ .idle) (h : step s = .next t) : t.Inv := by
  obtain ⟨pos, a, ms, hp, rfl⟩ := step_busy_next hbusy h
  cases hd : decode { latches := s.latches, ident := s.ident } with
  | ok i =>
    have hsess := hs.busyInSession hbusy
    rw [hd] at hsess
    rw [pendingMicros_of_decode hd] at hp
    exact runMicros_inv hs.sound hd (by simpa using hsess) (hp ▸ fromPosition_suffix s.seq (microsOf i s))
  | error e => simp [pendingMicros, hd] at hp

/-- An Idle step takes no input, a request, or an input that is none. -/
theorem step_idle_inv {s t : State} (hs : s.Inv) (hidle : s.seq = .idle) (h : step s = .next t) : t.Inv := by
  cases hi : s.inputs with
  | nil => rw [step_idle_nil hidle hi] at h; cases h; exact hs
  | cons input rest =>
    have hrest := hs.sound.dropInput rest
    by_cases hr : ∃ r, input = .request r
    · obtain ⟨r, rfl⟩ := hr
      rw [step_idle_request hidle hi] at h
      exact runRequest_inv hrest h
    · rw [step_idle_input hidle hi fun r hn => hr ⟨r, hn⟩] at h
      cases h
      exact (hrest.applyInput input).inv_of_idle ((applyInput_seq _ _).trans hidle)

end Sys2Proof.Machine

namespace Sys2Proof.Proofs

/-- Settles O4, from `step`'s two modes: an Idle step takes an input, a busy one goes on with its request. -/
theorem everyStepKeepsTheInvariant : Obligations.EveryStepKeepsTheInvariant := by
  intro s t hs h
  by_cases hidle : s.seq = .idle
  · exact step_idle_inv hs hidle h
  · exact resume_inv hs hidle h

/-- Settles O3: the defaults are in range (R9), and nothing has happened. -/
theorem resetMeetsTheInvariant : Obligations.ResetMeetsTheInvariant :=
  State.Sound.inv_of_idle ⟨Cfg.defaults_inRange, fun _ => rfl, ⟨rfl, rfl⟩, ⟨rfl, rfl⟩⟩ rfl

end Sys2Proof.Proofs
end

section
/-! PROOFS of the family 10_state. A request that waits, and what a run of moves depends on. -/

open Sys2Proof Sys2Proof.Machine Sys2Proof.Statements

namespace Sys2Proof.Machine

/-! ### Going on with a request that waits (R24, R263, R305) -/

theorem step_busy_answered {s : State} {p : SeqPos} {a : Act} {ms : List Micro} (hs : s.seq ≠ .idle)
    (hp : pendingMicros s = .act p a :: ms) (ha : answerReady a s = true) :
    step s = .next (runMicros (.act p a :: ms) s) := by
  simp [step_busy hs, resume, hp, ha]

theorem step_busy_stuck {s : State} {p : SeqPos} {a : Act} {ms : List Micro} (hs : s.seq ≠ .idle)
    (hp : pendingMicros s = .act p a :: ms) (ha : answerReady a s = false) : step s = .fault .stuck := by
  simp [step_busy hs, resume, hp, ha]

theorem State.moveTo_of_seq {s : State} {p : SeqPos} (h : s.seq = p) : s.moveTo p = s := by subst h; rfl

/-- At an operation without an answer, already stood at, a run of moves does nothing. -/
theorem runMicros_of_waiting {s : State} {p : SeqPos} {a : Act} (ms : List Micro) (hs : s.seq = p)
    (ha : answerReady a s = false) : runMicros (.act p a :: ms) s = s := by
  have hm := State.moveTo_of_seq hs
  rw [runMicros_unanswered ms (by rw [hm]; exact perform_unanswered.mpr ha), hm]

/-! ### More answers to come -/

theorem perform_withAnswers_done {a : Act} {s t : State} (opens writes : List Reply) (ends : Nat)
    (h : perform a s = .done t) : perform a (s.withAnswers opens writes ends) = .done (t.withAnswers opens writes ends) := by
  obtain ⟨bytes, rest, rfl, hw, rfl⟩ | ⟨n, rfl, hw, rfl⟩ | ⟨ident, rest, rfl, hw, rfl⟩ := perform_done h
  · simp [perform, hw, State.withAnswers, State.record]
  · simp [perform, hw, State.withAnswers, State.record, Nat.add_right_comm]
  · simp [perform, hw, State.withAnswers, State.record]

/-- A run of moves that leaves the block busy stands at one of its operations, and with more answers it is the run from
there on. -/
theorem runMicros_busy {ms : List Micro} {s : State} (h : (runMicros ms s).seq ≠ .idle) :
    ∃ pre p a post, ms = pre ++ .act p a :: post ∧ (runMicros ms s).seq = p ∧
      ∀ opens writes ends, runMicros ms (s.withAnswers opens writes ends) =
        runMicros (.act p a :: post) ((runMicros ms s).withAnswers opens writes ends) := by
  induction ms generalizing s with
  | nil => exact absurd rfl h
  | cons m ms ih =>
    cases m with
    | write f =>
      obtain ⟨pre, p, a, post, rfl, hp, hr⟩ := ih (s := s.configure f) h
      exact ⟨.write f :: pre, p, a, post, rfl, hp, hr⟩
    | act q b =>
      cases hb : perform b (s.moveTo q) with
      | done t =>
        rw [runMicros_done ms hb] at h ⊢
        obtain ⟨pre, p, a, post, rfl, hp, hr⟩ := ih h
        refine ⟨.act q b :: pre, p, a, post, rfl, hp, fun opens writes ends => ?_⟩
        exact (runMicros_done _ (perform_withAnswers_done opens writes ends hb)).trans (hr opens writes ends)
      | failed e t => rw [runMicros_failed ms hb] at h; exact absurd rfl h
      | unanswered =>
        rw [runMicros_unanswered ms hb]
        exact ⟨[], q, b, ms, rfl, rfl, fun _ _ _ => rfl⟩

/-- A request that waits has been admitted, and the state it waits in is where its moves lead. -/
theorem exec_busy {i : Instr} {s t : State} (h : exec i s = .next t) (hb : t.seq ≠ .idle) :
    i ≠ .closeSession ∧ refusal i s.sess s.tWritable = none ∧ t = runMicros (microsOf i s) s := by
  by_cases hc : i = .closeSession
  · subst hc
    cases hs : s.sess <;> simp only [exec, execCloseSession, hs] at h <;> cases h <;> exact absurd rfl hb
  · rw [exec_eq_course s hc] at h
    cases h
    cases hr : refusal i s.sess s.tWritable with
    | none => exact ⟨hc, rfl, course_of_admitted hr⟩
    | some c => rw [course_of_refused hr] at hb; exact absurd rfl hb

/-! ### What a run of moves depends on (R30, R102) -/

/-- Two states in the same session, with the same answers to come. -/
structure SameAnswers (s t : State) : Prop where
  sess : s.sess = t.sess
  openReplies : s.openReplies = t.openReplies
  writeReplies : s.writeReplies = t.writeReplies
  waitEnds : s.waitEnds = t.waitEnds

/-- From `s` to `t` and from `s'` to `t'` the same has happened: the events, the position, the session, the answers used,
and the result when there is one. -/
structure SameCourse (s s' t t' : State) : Prop where
  events : ∃ es, t.history = s.history ++ es ∧ t'.history = s'.history ++ es
  seq : t.seq = t'.seq
  answers : SameAnswers t t'
  res : t.seq = .idle → t.res = t'.res

/-- One operation in two states that have the same answers to come. -/
theorem perform_sameAnswers (a : Act) {s s' : State} (h : SameAnswers s s') :
    (∃ e t t', perform a s = .done t ∧ perform a s' = .done t' ∧ SameAnswers t t' ∧
      t.history = s.history ++ [e] ∧ t'.history = s'.history ++ [e]) ∨
    (∃ c e t t', perform a s = .failed c t ∧ perform a s' = .failed c t' ∧ SameAnswers t t' ∧
      t.history = s.history ++ [e] ∧ t'.history = s'.history ++ [e]) ∨
    (perform a s = .unanswered ∧ perform a s' = .unanswered) := by
  obtain ⟨hsess, hopen, hwrite, hwait⟩ := h
  cases hp : perform a s with
  | done t =>
    left
    obtain ⟨bytes, rest, rfl, hw, rfl⟩ | ⟨n, rfl, hw, rfl⟩ | ⟨ident, rest, rfl, hw, rfl⟩ := perform_done hp
    · exact ⟨_, _, _, rfl, perform_segment_ok bytes (hwrite.symm.trans hw), ⟨hsess, hopen, rfl, hwait⟩, rfl, rfl⟩
    · exact ⟨_, _, _, rfl, perform_wait (hwait.symm.trans hw), ⟨hsess, hopen, hwrite, rfl⟩, rfl, rfl⟩
    · exact ⟨_, _, _, rfl, perform_tOpen_ok ident (hopen.symm.trans hw), ⟨rfl, rfl, hwrite, hwait⟩, rfl, rfl⟩
  | failed c t =>
    right; left
    obtain ⟨bytes, rest, rfl, rfl, hw, rfl⟩ | ⟨ident, rest, rfl, rfl, hw, rfl⟩ := perform_failed hp
    · exact ⟨_, _, _, _, rfl, perform_segment_fail bytes (hwrite.symm.trans hw), ⟨hsess, hopen, rfl, hwait⟩, rfl, rfl⟩
    · exact ⟨_, _, _, _, rfl, perform_tOpen_fail ident (hopen.symm.trans hw), ⟨hsess, rfl, hwrite, hwait⟩, rfl, rfl⟩
  | unanswered =>
    right; right
    rw [perform_unanswered] at hp
    exact ⟨rfl, perform_unanswered.mpr (by rw [← hp]; cases a <;> simp only [answerReady, hopen, hwrite, hwait])⟩

theorem SameAnswers.finish {s s' : State} (h : SameAnswers s s') (c : ResultCode) :
    SameCourse s s' (s.finish c) (s'.finish c) :=
  ⟨⟨[.result c], rfl, rfl⟩, rfl, { h with }, fun _ => rfl⟩

/-- A course that goes on after one event. -/
theorem SameCourse.after {s s' u u' t t' : State} {e : Event} (h : SameCourse u u' t t')
    (hu : u.history = s.history ++ [e]) (hu' : u'.history = s'.history ++ [e]) : SameCourse s s' t t' := by
  obtain ⟨es, hes, hes'⟩ := h.events
  exact { h with events := ⟨e :: es, by simp [hes, hu], by simp [hes', hu']⟩ }

/-- The same moves take the same course in two states that have the same answers to come. -/
theorem runMicros_sameCourse {ms : List Micro} {s s' : State} (hidle : .idle ∉ positions ms) (h : SameAnswers s s') :
    SameCourse s s' (runMicros ms s) (runMicros ms s') := by
  induction ms generalizing s s' with
  | nil => exact h.finish .ok
  | cons m ms ih =>
    cases m with
    | write f =>
      have hf : SameAnswers (s.configure f) (s'.configure f) := { h with }
      have hc := ih hidle hf
      exact { hc with }
    | act p a =>
      obtain ⟨hp, hidle⟩ := not_or.mp (mt List.mem_cons.mpr hidle)
      have hm : SameAnswers (s.moveTo p) (s'.moveTo p) := { h with }
      obtain ⟨e, t, t', ht, ht', hs, he, he'⟩ | ⟨c, e, t, t', ht, ht', hs, he, he'⟩ | ⟨ht, ht'⟩ :=
        perform_sameAnswers a hm
      · rw [runMicros_done ms ht, runMicros_done ms ht']
        exact (ih hidle hs).after he he'
      · rw [runMicros_failed ms ht, runMicros_failed ms ht']
        exact (hs.finish c).after he he'
      · rw [runMicros_unanswered ms ht, runMicros_unanswered ms ht']
        exact ⟨⟨[], by simp, by simp⟩, rfl, hm, fun hi => absurd hi.symm hp⟩

/-- A request takes the same course in two states with the same session, level, stores and answers. -/
theorem exec_sameCourse {i : Instr} {s s' t t' : State} (h : SameAnswers s s') (himg : s.img = s'.img)
    (hbcd : s.bcd = s'.bcd) (hw : s.tWritable = s'.tWritable) (ht : exec i s = .next t) (ht' : exec i s' = .next t') :
    SameCourse s s' t t' := by
  by_cases hc : i = .closeSession
  · subst hc
    cases hs : s.sess <;> simp only [exec, execCloseSession, hs, ← h.sess] at ht ht' <;> cases ht <;> cases ht'
    · exact h.finish .ok
    · have hclosed : SameAnswers (State.record .tClose { s with sess := .closed, cfg := Cfg.defaults })
          (State.record .tClose { s' with sess := .closed, cfg := Cfg.defaults }) := { h with sess := rfl }
      exact (hclosed.finish .ok).after rfl rfl
  · rw [exec_eq_course _ hc] at ht ht'
    cases ht; cases ht'
    have hr' : refusal i s'.sess s'.tWritable = refusal i s.sess s.tWritable := by rw [h.sess, hw]
    cases hr : refusal i s.sess s.tWritable with
    | some c => rw [course_of_refused hr, course_of_refused (hr'.trans hr)]; exact h.finish c
    | none =>
      rw [course_of_admitted hr, course_of_admitted (hr'.trans hr), ← microsOf_congr i himg hbcd]
      exact runMicros_sameCourse (idle_notMem_positions i s) h

/-! ### The frame of a request (R20, R25, R32) -/

theorem exec_outside {i : Instr} {s t : State} (h : exec i s = .next t) : SameOutside s t := by
  obtain ⟨c, -, he⟩ | ⟨he, -, -⟩ | ⟨-, -, he⟩ | ⟨-, -, he⟩ := exec_cases i s <;> rw [he] at h <;> cases h
  · exact ⟨rfl, rfl, rfl, rfl, rfl, rfl⟩
  · exact runMicros_outside _ s
  · exact ⟨rfl, rfl, rfl, rfl, rfl, rfl⟩
  · exact ⟨rfl, rfl, rfl, rfl, rfl, rfl⟩

/-- A request other than Open uses no answer to an open, and keeps the session unless it is Close. -/
theorem exec_session {i : Instr} {s t : State} (ho : ∀ ident, i ≠ .openSession ident) (h : exec i s = .next t) :
    t.openReplies = s.openReplies ∧ (i ≠ .closeSession → t.sess = s.sess) := by
  obtain ⟨c, -, he⟩ | ⟨he, -, -⟩ | ⟨-, -, he⟩ | ⟨hc, -, he⟩ := exec_cases i s <;> rw [he] at h <;> cases h
  · exact ⟨rfl, fun _ => rfl⟩
  · have hw : ∀ p a, .act p a ∈ microsOf i s → a.whileOpen = true :=
      fun _ _ => act_whileOpen fun ⟨ident, hi⟩ => ho ident hi
    exact ⟨(runMicros_session hw).2, fun _ => (runMicros_session hw).1⟩
  · exact ⟨rfl, fun _ => rfl⟩
  · exact ⟨rfl, absurd hc⟩

end Sys2Proof.Machine

namespace Sys2Proof.Proofs

/-- Settles O8: both cases of `resume`. -/
theorem busyBlockGoesOnOnlyWhenAnswered : Obligations.BusyBlockGoesOnOnlyWhenAnswered :=
  fun _ _ _ _ hs hp => ⟨step_busy_answered hs hp, step_busy_stuck hs hp⟩

/-- Settles O10: the state a request waits in holds its operation and what follows (R24), and the run with more answers
is the run from there. -/
theorem lateAnswersChangeNothing : Obligations.LateAnswersChangeNothing := by
  intro i s t opens writes ends hi he hb
  obtain ⟨hc, hr, rfl⟩ := exec_busy he hb
  obtain ⟨pre, p, a, post, hsplit, hp, hrun⟩ := runMicros_busy hb
  have hout := runMicros_outside (microsOf i s) s
  generalize ht : (runMicros (microsOf i s) s).withAnswers opens writes ends = t'
  have hseq : t'.seq = p := by rw [← ht, ← hp]; rfl
  have hmoves : microsOf i t' = microsOf i s := by rw [← ht]; exact microsOf_congr i hout.img hout.bcd
  have hpending : pendingMicros t' = .act p a :: post := by
    have hdec : decode { latches := t'.latches, ident := t'.ident } = .ok i := by
      rw [← ht, State.withAnswers_latches, State.withAnswers_ident, hout.latches, hout.ident]; exact hi
    rw [pendingMicros_of_decode hdec, hseq, hmoves, fromPosition_microsOf hsplit]
  have hexec : exec i (s.withAnswers opens writes ends) = .next (runMicros (.act p a :: post) t') := by
    rw [exec_eq_course _ hc, ← ht, ← hrun]
    exact congrArg _ (course_of_admitted hr)
  have hbusy : t'.seq ≠ .idle := by rw [hseq, ← hp]; exact hb
  cases ha : answerReady a t' with
  | true =>
    rw [step_busy_answered hbusy hpending ha, hexec]
    exact ⟨fun _ hu => hu, nofun⟩
  | false =>
    rw [step_busy_stuck hbusy hpending ha, hexec, runMicros_of_waiting post hseq ha]
    exact ⟨fun _ hu => (nomatch hu), fun _ => rfl⟩

/-- Settles O47, by the two runs of the same moves. -/
theorem outputDependsOnParametersAlone : Obligations.OutputDependsOnParametersAlone := by
  intro i s s' t t' hsess himg hbcd hw ho hwr hn ht ht'
  obtain ⟨hes, hseq, ⟨hsess, ho, hwr, hn⟩, hres⟩ := exec_sameCourse ⟨hsess, ho, hwr, hn⟩ himg hbcd hw ht ht'
  exact ⟨hes, hseq, hsess, ho, hwr, hn, hres⟩

/-- Settles O9: what runs is a part of the request's moves. -/
theorem busyBlockAcceptsNothing : Obligations.BusyBlockAcceptsNothing := by
  intro s t hs h
  obtain ⟨pos, a, ms, -, rfl⟩ := step_busy_next hs h
  obtain ⟨hlatches, hident, himg, hbcd, hw, hinputs⟩ := runMicros_outside (.act pos a :: ms) s
  exact ⟨hlatches, hident, hinputs, himg, hbcd, hw⟩

/-- Settles O45, by how a request is turned away, runs, or closes the session. -/
theorem resultIsWrittenOnceAtCompletion : Obligations.ResultIsWrittenOnceAtCompletion := by
  intro i s t h
  have noResult {es : List Event} (hes : ∀ e ∈ es, e.isResult = false) (c : ResultCode) : .result c ∉ es :=
    fun hc => Bool.noConfusion (hes _ hc)
  obtain ⟨c, -, he⟩ | ⟨he, -, -⟩ | ⟨-, -, he⟩ | ⟨-, -, he⟩ := exec_cases i s <;> rw [he] at h <;> cases h
  · exact ⟨fun _ => ⟨[], by simp⟩, absurd rfl⟩
  · obtain ⟨es, c, -, hidle, hres, hh, hes⟩ | ⟨es, pos, a, hmem, hpos, hres, -, hh, hes⟩ :=
      runMicros_ends (microsOf i s) s
    · exact ⟨fun _ => ⟨es, by rw [hres, hh, List.append_assoc], noResult hes⟩, absurd hidle⟩
    · exact ⟨fun hidle => absurd (hpos.symm.trans hidle) (act_ne_idle hmem), fun _ => ⟨hres, es, hh, noResult hes⟩⟩
  · exact ⟨fun _ => ⟨[], by simp⟩, absurd rfl⟩
  · exact ⟨fun _ => ⟨[.tClose], by simp⟩, absurd rfl⟩

/-- Settles O46: every write among a request's moves is a directive's, and keeps the fields that are not its own. -/
theorem cfgFieldsHaveTheirOwnWriters : Obligations.CfgFieldsHaveTheirOwnWriters := by
  intro i s t f h hf
  obtain ⟨c, -, he⟩ | ⟨he, -, -⟩ | ⟨-, -, he⟩ | ⟨rfl, -, -⟩ := exec_cases i s
  · rw [he] at h; cases h; rfl
  · rw [he] at h; cases h
    refine runMicros_cfg (Q := fun c => c.get f = s.cfg.get f) (fun w hw c hc => ?_) rfl
    obtain ⟨j, rfl, hj⟩ := write_mem_microsOf hw
    rw [fieldsFirst_get (fun hfj => hf (hj hfj)), hc]
  · rw [he] at h; cases h; rfl
  · exact absurd (by cases f <;> simp [fieldsWritten]) hf

/-- Settles O48: a request touches nothing outside it, and only Open asks for a `TOpen`. -/
theorem frameOfEveryRequest : Obligations.FrameOfEveryRequest := by
  intro i s t h
  have hout := exec_outside h
  exact ⟨hout.latches, hout.ident, hout.tWritable, hout.inputs, by simp [hout.img], by simp [hout.bcd],
    fun ho hc => (exec_session ho h).2 hc, fun ho => (exec_session ho h).1⟩

end Sys2Proof.Proofs
end

section
/-! PROOFS of the family 10_state. Requests answered in part: Init write by write, and the operation without an answer. -/

open Sys2Proof Sys2Proof.Machine Sys2Proof.Statements

namespace Sys2Proof.Machine

/-! ### A run of moves at its next operation -/

section
variable {s : State} {p : SeqPos} {bytes : List Byte} {ms : List Micro} {rest : List Reply}

theorem runMicros_segment_ok (h : s.writeReplies = .ok :: rest) :
    runMicros (.act p (.segment bytes) :: ms) s =
      runMicros ms { s with seq := p, writeReplies := rest, history := s.history ++ [.write bytes .ok] } :=
  runMicros_done ms (perform_segment_ok (s := s.moveTo p) bytes h)

theorem runMicros_segment_fail (h : s.writeReplies = .fail :: rest) :
    runMicros (.act p (.segment bytes) :: ms) s =
      { s with seq := .idle, res := .transportWriteError, writeReplies := rest,
               history := s.history ++ [.write bytes .fail, .result .transportWriteError] } := by
  rw [runMicros_failed ms (perform_segment_fail (s := s.moveTo p) bytes h)]
  simp [State.finish, State.moveTo]

theorem runMicros_segment_unanswered (h : s.writeReplies = []) :
    runMicros (.act p (.segment bytes) :: ms) s = { s with seq := p } :=
  runMicros_unanswered ms (perform_unanswered.mpr (by simp [answerReady, h]))

theorem runMicros_wait {n : Nat} (h : s.waitEnds = n + 1) :
    runMicros (.act p .wait :: ms) s =
      runMicros ms { s with seq := p, waitEnds := n, history := s.history ++ [.wait] } :=
  runMicros_done ms (perform_wait (s := s.moveTo p) h)

theorem runMicros_wait_unanswered (h : s.waitEnds = 0) : runMicros (.act p .wait :: ms) s = { s with seq := p } :=
  runMicros_unanswered ms (perform_unanswered.mpr (by simp [answerReady, h]))

end

/-! ### Init, write by write (R190 to R192) -/

/-- The moves of Init from its write number `n` on. -/
def initMovesFrom (n : Nat) : List Micro := fromPosition (initPosition n) (microsOf .initSequence State.reset)

/-- Init at its write number `n`, with the answers `rest` to writes and `m` wait ends to come. -/
def initStateAt (n : Nat) (rest : List Reply) (m : Nat) (s : State) : State :=
  { s with cfg := initFieldsAt n s.cfg, writeReplies := rest, waitEnds := m, seq := initPosition n,
           history := s.history ++ initEventsBefore n }

theorem initMovesFrom_eq_cons {n : Nat} (hn : n < 9) :
    ∃ post, initMovesFrom n = .act (initPosition n) (.segment (initSegment n)) :: post := by
  interval_cases n <;> exact ⟨_, rfl⟩

theorem initWaitsBefore_succ (n : Nat) : initWaitsBefore (n + 1) = (initWaitAfter () n).length + initWaitsBefore n := by
  by_cases hwait : n = 0 ∨ n = 4
  · obtain rfl | rfl := hwait <;> rfl
  · obtain ⟨h0, h4⟩ := not_or.mp hwait
    simp only [initWaitsBefore, initWaitAfter, if_neg hwait, if_neg h0, if_neg n.succ_ne_zero, List.length_nil]
    split_ifs <;> omega

theorem initEventsBefore_zero : initEventsBefore 0 = [] := rfl

theorem initEventsBefore_succ (n : Nat) :
    initEventsBefore (n + 1) = initEventsBefore n ++ .write (initSegment n) .ok :: initWaitAfter .wait n := by
  simp [initEventsBefore, List.range_succ]

/-- An answered write, and the wait that may follow it, bring Init to its next write. -/
theorem runMicros_init_advances {n : Nat} (hn : n < 8) (rest : List Reply) (m : Nat) (s : State) :
    runMicros (initMovesFrom n) (initStateAt n (.ok :: rest) (m + (initWaitAfter () n).length) s) =
      runMicros (initMovesFrom (n + 1)) (initStateAt (n + 1) rest m s) := by
  have hevents : s.history ++ initEventsBefore (n + 1) =
      s.history ++ initEventsBefore n ++ [.write (initSegment n) .ok] ++ initWaitAfter .wait n := by
    simp [initEventsBefore_succ]
  unfold initStateAt
  rw [hevents]
  generalize s.history ++ initEventsBefore n = before
  by_cases hwait : n = 0 ∨ n = 4
  · obtain rfl | rfl := hwait <;> rfl
  · have hnone : initWaitAfter Event.wait n = [] := if_neg hwait
    rw [hnone, List.append_nil]
    obtain rfl | rfl | rfl | rfl | rfl | rfl : n = 1 ∨ n = 2 ∨ n = 3 ∨ n = 5 ∨ n = 6 ∨ n = 7 := by omega
    all_goals rfl

/-- Init reaches its write number `n` when the writes before it are answered ok and their waits end. -/
theorem exec_init_reaches {n : Nat} {rest : List Reply} {m : Nat} {s : State} (hs : s.sess = .opened) (hn : n < 9)
    (hw : s.writeReplies = List.replicate n .ok ++ rest) (he : s.waitEnds = m + initWaitsBefore n) :
    exec .initSequence s = .next (runMicros (initMovesFrom n) (initStateAt n rest m s)) := by
  induction n generalizing rest m with
  | zero =>
    have hstart : initStateAt 0 rest m s = s.moveTo (.init 0 0) := by
      obtain rfl : s.writeReplies = rest := hw
      obtain rfl : s.waitEnds = m := he
      rw [initStateAt, initEventsBefore_zero, List.append_nil]
      rfl
    rw [exec_eq_course (i := .initSequence) s nofun, course_of_admitted (by rw [hs]; rfl), hstart]
    rfl
  | succ n ih =>
    have hw' : s.writeReplies = List.replicate n .ok ++ .ok :: rest := by
      simpa [List.replicate_succ', List.append_assoc] using hw
    have he' : s.waitEnds = m + (initWaitAfter () n).length + initWaitsBefore n := by
      rw [he, initWaitsBefore_succ, Nat.add_assoc]
    rw [ih (by omega) hw' he', runMicros_init_advances (by omega)]

/-- Init stands at the wait after its write number `n` when that wait does not end. -/
theorem exec_init_waits {n : Nat} {ws : List Reply} {s : State} (hs : s.sess = .opened) (hn : n = 0 ∨ n = 4)
    (hw : s.writeReplies = List.replicate n .ok ++ .ok :: ws) (he : s.waitEnds = initWaitsBefore n) :
    exec .initSequence s =
      .next { s with cfg := initFieldsAt n s.cfg, writeReplies := ws, waitEnds := 0, seq := .init n 1,
                     history := s.history ++ initEventsBefore n ++ [.write (initSegment n) .ok] } := by
  obtain ⟨post, hpost⟩ : ∃ post, initMovesFrom n =
      .act (initPosition n) (.segment (initSegment n)) :: .act (.init n 1) .wait :: post := by
    obtain rfl | rfl := hn <;> exact ⟨_, rfl⟩
  rw [exec_init_reaches hs (by omega) hw (he.trans (Nat.zero_add _).symm), hpost, runMicros_segment_ok rfl,
    runMicros_wait_unanswered rfl]
  rfl

theorem wireStream_initEventsBefore (n : Nat) : wireStream (initEventsBefore n) = initWireBefore n := by
  have hwait (k : Nat) : wireStream (initWaitAfter .wait k) = initWaitAfter .waitMark k := by
    unfold initWaitAfter
    split_ifs <;> rfl
  simp only [wireStream] at hwait
  simp [wireStream, initEventsBefore, initWireBefore, List.flatMap_assoc, Event.onWire, onWire, hwait]

/-! ### The other requests at an operation without an answer -/

/-- The first moves of a directive and of Init: the fields of the first directive, then its first segment. -/
theorem microsOf_starts {i : Instr} (h : isDirective i = true ∨ i = .initSequence) (s : State) :
    ∃ bytes post, microsOf i s =
      .write (fieldsFirst i) :: .act (if i = .initSequence then .init 0 0 else .item 0) (.segment bytes) :: post := by
  obtain h | rfl := h
  · obtain ⟨bytes, as, hm, -⟩ := microsOf_directive h s
    have hi : i ≠ .initSequence := by rintro rfl; cases h
    exact ⟨bytes, _, by rw [hm, if_neg hi]; rfl⟩
  · exact ⟨_, _, rfl⟩

/-- A directive and Init run their moves while Open (R119, R252). -/
theorem exec_of_opened {i : Instr} {s : State} (h : isDirective i = true ∨ i = .initSequence) (hs : s.sess = .opened) :
    exec i s = .next (runMicros (microsOf i s) s) := by
  have hr : refusal i s.sess s.tWritable = none := by
    rw [hs]
    cases i with
    | printImage _ _ _ _ | openSession _ | closeSession => simp [isDirective] at h
    | _ => rfl
  rw [exec_eq_course s (by rintro rfl; simp [isDirective] at h), course_of_admitted hr]

/-- SetSleepTime past its first write (R123). -/
theorem exec_setSleepTime_first (sec : Byte) {s : State} {ws : List Reply} (hs : s.sess = .opened)
    (hw : s.writeReplies = .ok :: ws) :
    exec (.setSleepTime sec) s = .next (runMicros [.act (.item 1) .wait, .act (.item 2) (.segment [0xFF#8])]
      { s with cfg := { s.cfg with sleepSeconds := sec }, writeReplies := ws, seq := .item 0,
               history := s.history ++ [.write [0x1B#8, 0x38#8, sec] .ok] }) := by
  rw [exec_of_opened (.inl rfl) hs]
  exact congrArg _ (runMicros_segment_ok (s := s.configure (fieldsFirst (.setSleepTime sec))) hw)

end Sys2Proof.Machine

namespace Sys2Proof.Proofs

/-- Settles O29: Init reaches its write `n`, and there the failed write ends it. -/
theorem initStopsAtTheFirstFailedWrite : Obligations.InitStopsAtTheFirstFailedWrite := by
  intro s n m ws hs hn hw he
  obtain ⟨post, hpost⟩ := initMovesFrom_eq_cons hn
  refine ⟨_, ?_, rfl, ?_⟩
  · rw [exec_init_reaches hs hn hw he, hpost, runMicros_segment_fail rfl]
    rfl
  · simp [wireStream, List.flatMap_append, Event.onWire, ← wireStream_initEventsBefore]

/-- Settles O56: Init reaches its write `n`, and there, or at the wait after it, it stands. -/
theorem initWaitsAtItsUnansweredItem : Obligations.InitWaitsAtItsUnansweredItem := by
  refine ⟨fun s n m hs hn hw he => ?_, fun s ws hs hw he => ?_, fun s ws hs hw he => ?_⟩
  · obtain ⟨post, hpost⟩ := initMovesFrom_eq_cons hn
    rw [exec_init_reaches hs hn (hw.trans (List.append_nil _).symm) he, hpost, runMicros_segment_unanswered rfl]
    rfl
  · rw [exec_init_waits hs (.inl rfl) hw he, initEventsBefore_zero, List.append_nil]
    simp only [he]
    rfl
  · exact exec_init_waits hs (.inr rfl) hw he

/-- Settles O20: the fields are the first move, and the operation without an answer is where the run stops. -/
theorem unansweredOperationLeavesTheBlockAtIt : Obligations.UnansweredOperationLeavesTheBlockAtIt := by
  refine ⟨fun i s hp ho hc hs hw => ?_, fun s ws hs hw he => ?_, fun sec s ws hs hw he => ?_,
    fun sec s n hs hw he => ?_⟩
  · have hi : isDirective i = true ∨ i = .initSequence := by
      cases i with
      | printImage sw sh scale dark => exact absurd rfl (hp sw sh scale dark)
      | openSession ident => exact absurd rfl (ho ident)
      | closeSession => exact absurd rfl hc
      | initSequence => exact .inr rfl
      | _ => exact .inl rfl
    obtain ⟨bytes, post, hm⟩ := microsOf_starts hi s
    rw [exec_of_opened hi hs, hm]
    exact congrArg _ (runMicros_segment_unanswered (s := s.configure (fieldsFirst i)) hw)
  · rw [exec_of_opened (.inl rfl) hs]
    refine congrArg _ ((runMicros_segment_ok (s := s.configure id) hw).trans ?_)
    exact runMicros_wait_unanswered he
  · rw [exec_setSleepTime_first sec hs hw]
    exact congrArg _ (runMicros_wait_unanswered he)
  · rw [exec_setSleepTime_first sec hs hw]
    refine congrArg _ (Eq.trans (runMicros_wait (n := n) ?_) ?_)
    · exact he
    · rw [runMicros_segment_unanswered rfl]
      simp

/-- Settles O32: the three segments of `rasterMicros`, one after the other. -/
theorem printImageWaitsAtItsSegment : Obligations.PrintImageWaitsAtItsSegment := by
  rintro sw sh scale dark s header body hs hw hf rfl rfl
  have hexec : exec (.printImage sw sh scale dark) s = .next (runMicros (rasterMicros s.img sw sh scale) s) := by
    have hr : refusal (.printImage sw sh scale dark) s.sess s.tWritable = none := by rw [hs, hw]; exact hf
    rw [exec_eq_course (i := .printImage sw sh scale dark) s nofun, course_of_admitted hr]
    simp only [microsOf, hf]
  rw [hexec, rasterMicros]
  refine ⟨fun h => ?_, fun h => ?_, fun h => ?_⟩
  · rw [runMicros_segment_unanswered h]
  · rw [runMicros_segment_ok h, runMicros_segment_unanswered rfl]
  · rw [runMicros_segment_ok h, runMicros_segment_ok rfl, runMicros_segment_unanswered rfl]
    simp

/-- Settles O39, by the first case of Open's one operation. -/
theorem openWaitsForItsAnswer : Obligations.OpenWaitsForItsAnswer := by
  intro ident s hs ho
  have hr : refusal (.openSession ident) s.sess s.tWritable = none := by rw [hs]; rfl
  rw [exec_eq_course (i := .openSession ident) s nofun, course_of_admitted hr]
  exact congrArg _ (runMicros_unanswered [] (perform_unanswered.mpr (by simp [answerReady, ho])))

/-! ### Reset, acceptance and the read-back port -/

/-- Settles O1: the fields of `State.reset`. -/
theorem resetLeavesTheBlockClosedAndIdle : Obligations.ResetLeavesTheBlockClosedAndIdle :=
  ⟨rfl, rfl, rfl, rfl, rfl, rfl⟩

/-- Settles O2: acceptance overwrites the latches and the identifier before anything reads them. -/
theorem latchesAreUnreadBeforeAcceptance : Obligations.LatchesAreUnreadBeforeAcceptance := by
  intro s l d r rest hs hi
  have haccept : accept r { s with latches := l, ident := d, inputs := rest } = accept r { s with inputs := rest } := rfl
  rw [step_idle_request hs hi, step_idle_request (s := { s with latches := l, ident := d }) hs hi]
  cases hd : decode r with
  | ok i => rw [runRequest_ok hd, runRequest_ok hd, haccept]
  | error e => rw [runRequest_error hd, runRequest_error hd, haccept]

/-- Settles O7: acceptance and dispatch; nothing presented, nothing done. -/
theorem stepRunsTheDecodedRequest : Obligations.StepRunsTheDecodedRequest :=
  ⟨fun _ _ _ _ hs hi hd => (step_idle_request hs hi).trans (runRequest_ok hd _), fun _ => step_idle_nil⟩

/-- Settles O13; while Closed the fields are the defaults (R31). -/
theorem readBackPortReadsTheFields : Obligations.ReadBackPortReadsTheFields := by
  have idle (f : CfgField) {s : State} (hs : s.seq = .idle) : readBack f s = some (s.cfg.get f) := by
    simp [readBack, hs]
  refine ⟨fun s hs => ?_, fun f s hs => ?_, fun f s hinv hs hc => ?_⟩
  · simp only [idle _ hs]
    exact ⟨rfl, rfl, rfl, rfl, rfl, rfl, rfl, rfl, rfl, rfl, rfl, rfl, rfl, rfl, rfl, rfl, rfl⟩
  · unfold readBack
    split
    next h => exact absurd h hs
    next => rfl
  · rw [idle f hs, hinv.closedHoldsDefaults hc]

/-- Settles O41, by the table of R250. -/
theorem resultCodesAreNumbered : Obligations.ResultCodesAreNumbered := by
  intro c
  cases c <;> decide

end Sys2Proof.Proofs
end

section
/-! PROOFS of the family 20_memory. The history of a run, and the events a request adds to it. -/

open Sys2Proof Sys2Proof.Machine Sys2Proof.Statements

namespace Sys2Proof.Machine

/-! ### The history of a run (R56, R63) -/

theorem wireStream_append (es fs : List Event) : wireStream (es ++ fs) = wireStream es ++ wireStream fs :=
  List.flatMap_append

theorem answered_history {a : Act} {s t : State} (h : Answered a s t) : s.history <+: t.history := by
  obtain h | ⟨e, h⟩ := h
  · obtain ⟨_, _, _, _, rfl⟩ | ⟨_, _, _, rfl⟩ | ⟨_, _, _, _, rfl⟩ := perform_done h <;>
      exact List.prefix_append _ _
  · obtain ⟨_, _, _, _, _, rfl⟩ | ⟨_, _, _, _, _, rfl⟩ := perform_failed h <;> exact List.prefix_append _ _

theorem finish_history_prefix (c : ResultCode) (s : State) : s.history <+: (s.finish c).history :=
  List.prefix_append _ _

/-- A run of moves only adds events. -/
theorem runMicros_history_prefix (ms : List Micro) (s : State) : s.history <+: (runMicros ms s).history :=
  runMicros_preserves (P := fun t => s.history <+: t.history) (fun _ _ h => h)
    (fun c t h => h.trans (finish_history_prefix c t)) (fun _ _ _ h => h)
    (fun _ _ _ _ _ h ha => h.trans (answered_history ha)) (List.prefix_refl _)

theorem exec_history_prefix {i : Instr} {s t : State} (h : exec i s = .next t) : s.history <+: t.history := by
  obtain ⟨c, -, he⟩ | ⟨he, -, -⟩ | ⟨-, -, he⟩ | ⟨-, -, he⟩ := exec_cases i s <;> rw [he] at h <;> cases h
  · exact finish_history_prefix c s
  · exact runMicros_history_prefix _ s
  · exact finish_history_prefix .ok s
  · exact (List.prefix_append s.history [.tClose]).trans (List.prefix_append _ [Event.result .ok])

theorem runRequest_history_prefix {r : Request} {s t : State} (h : runRequest r s = .next t) :
    s.history <+: t.history := by
  cases hd : decode r with
  | ok i => rw [runRequest_ok hd] at h; exact exec_history_prefix (s := accept r s) h
  | error e => rw [runRequest_error hd] at h; cases h; exact finish_history_prefix _ (accept r s)

@[simp] theorem applyInput_history (input : Input) (s : State) : (applyInput input s).history = s.history := by
  cases input <;> rfl

/-- Every step only adds events. -/
theorem step_history_prefix {s t : State} (h : step s = .next t) : s.history <+: t.history := by
  by_cases hidle : s.seq = .idle
  · cases hi : s.inputs with
    | nil => rw [step_idle_nil hidle hi] at h; cases h; exact List.prefix_refl _
    | cons input rest =>
      by_cases hr : ∃ r, input = .request r
      · obtain ⟨r, rfl⟩ := hr
        rw [step_idle_request hidle hi] at h
        exact runRequest_history_prefix (s := { s with inputs := rest }) h
      · rw [step_idle_input hidle hi fun r hn => hr ⟨r, hn⟩] at h
        cases h
        rw [applyInput_history]
  · obtain ⟨pos, a, ms, -, rfl⟩ := step_busy_next hidle h
    exact runMicros_history_prefix _ s

/-- What relates a state to the state after each step relates it to the state after any number of steps. -/
theorem run_relates {M : Host.Core} {R : M.State → M.State → Prop} (hrefl : ∀ s, R s s)
    (htrans : ∀ s t u, R s t → R t u → R s u) (hstep : ∀ s t, M.step s = .next t → R s t) {k : Nat} {s t : M.State}
    (h : M.run k s = .next t) : R s t := by
  induction k generalizing s with
  | zero => cases h; exact hrefl _
  | succ k ih =>
    rw [Host.Core.run] at h
    split at h
    next u hu => exact htrans s u t (hstep s u hu) (ih h)
    next => cases h
    next => cases h

/-! ### The events of a request (R58, R252, R258) -/

/-- An event by which a request goes on while Open: a segment answered ok, or a wait. -/
def Event.isSent : Event → Bool
  | .write _ .ok => true
  | .write _ .fail => false
  | .wait => true
  | .tOpen _ _ => false
  | .tClose => false
  | .result _ => false

/-- An event that is neither a segment's write nor a wait, nor reports a failed write. -/
def Event.isOffTransport : Event → Bool
  | .write _ _ => false
  | .wait => false
  | .tOpen _ _ => true
  | .tClose => true
  | .result c => c != .transportWriteError

/-- How the events of moves made while Open end: a request in progress, a completed one, or the first failed write. -/
def Ending (t : State) (tail : List Event) : Prop :=
  tail = [] ∨ tail = [.result .ok] ∨
    ∃ seg, tail = [.write seg .fail, .result .transportWriteError] ∧ t.res = .transportWriteError ∧ t.seq = .idle

/-- Segments and waits add the events of what was sent, and then an ending. -/
theorem runMicros_events {ms : List Micro} {s : State} (hw : ∀ p a, .act p a ∈ ms → a.whileOpen = true) :
    ∃ sent tail, (runMicros ms s).history = s.history ++ (sent ++ tail) ∧ (∀ e ∈ sent, e.isSent = true) ∧
      Ending (runMicros ms s) tail := by
  induction ms generalizing s with
  | nil => exact ⟨[], [.result .ok], rfl, nofun, .inr (.inl rfl)⟩
  | cons m ms ih =>
    have ih (u : State) := ih (s := u) fun p a ha => hw p a (List.mem_cons_of_mem _ ha)
    cases m with
    | write f => exact ih (s.configure f)
    | act p a =>
      have ha := hw p a List.mem_cons_self
      cases hp : perform a (s.moveTo p) with
      | done t =>
        have ht : ∃ e : Event, e.isSent = true ∧ t.history = s.history ++ [e] := by
          obtain ⟨_, _, _, _, rfl⟩ | ⟨_, _, _, rfl⟩ | ⟨_, _, rfl, -⟩ := perform_done hp
          exacts [⟨_, rfl, rfl⟩, ⟨_, rfl, rfl⟩, nomatch ha]
        obtain ⟨e, he, hh⟩ := ht
        obtain ⟨sent, tail, hist, hsent, hend⟩ := ih t
        rw [runMicros_done ms hp]
        exact ⟨e :: sent, tail, by simp [hist, hh], List.forall_mem_cons.mpr ⟨he, hsent⟩, hend⟩
      | failed e t =>
        rw [runMicros_failed ms hp]
        obtain ⟨bytes, _, _, rfl, _, rfl⟩ | ⟨_, _, rfl, -⟩ := perform_failed hp
        · exact ⟨[], _, by simp, nofun, .inr (.inr ⟨bytes, rfl, rfl, rfl⟩)⟩
        · cases ha
      | unanswered =>
        rw [runMicros_unanswered ms hp]
        exact ⟨[], [], by simp, nofun, .inl rfl⟩

/-- The events of a request: none on the Transport's data side, or, from Open to Open, what was sent and an ending. -/
theorem exec_events {i : Instr} {s t : State} {es : List Event} (h : exec i s = .next t)
    (hh : t.history = s.history ++ es) :
    (∀ e ∈ es, e.isOffTransport = true) ∨
    (s.sess = .opened ∧ t.sess = .opened ∧
      ∃ sent tail, es = sent ++ tail ∧ (∀ e ∈ sent, e.isSent = true) ∧ Ending t tail) := by
  have added {fs : List Event} (hf : t.history = s.history ++ fs) : es = fs := List.append_cancel_left (hh.symm.trans hf)
  obtain ⟨c, hc, he⟩ | ⟨he, -, hsess⟩ | ⟨-, -, he⟩ | ⟨-, -, he⟩ := exec_cases i s <;> rw [he] at h <;> cases h
  · obtain rfl := added (fs := [.result c]) rfl
    left
    obtain rfl | rfl | rfl | rfl := hc <;> decide
  · by_cases ho : ∃ ident, i = .openSession ident
    · obtain ⟨ident, rfl⟩ := ho
      left
      obtain ⟨-, hr⟩ | ⟨rest, -, hr⟩ | ⟨rest, -, hr⟩ := runMicros_openMicros ident s
      · obtain rfl := added (fs := []) (by simp [microsOf, hr])
        nofun
      · obtain rfl := added (fs := [.tOpen ident .ok, .result .ok]) (by simp [microsOf, hr])
        simp [Event.isOffTransport]
      · obtain rfl := added (fs := [.tOpen ident .fail, .result .transportUnavailable]) (by simp [microsOf, hr])
        simp [Event.isOffTransport]
    · have hw : ∀ p a, .act p a ∈ microsOf i s → a.whileOpen = true := fun _ _ => act_whileOpen ho
      have hopen : s.sess = .opened := by
        cases hs : s.sess with
        | closed => exact absurd (hsess.mp hs) ho
        | opened => rfl
      obtain ⟨sent, tail, hist, hsent, hend⟩ := runMicros_events hw
      exact .inr ⟨hopen, (runMicros_session hw).1.trans hopen, sent, tail, added hist, hsent, hend⟩
  · obtain rfl := added (fs := [.result .ok]) rfl
    exact .inl (by decide)
  · obtain rfl := added (fs := [.tClose, .result .ok]) (by simp)
    exact .inl (by decide)

/-- A failed write among the events of moves made while Open is the ending's, with its result after it. -/
theorem Ending.of_failed_write {t : State} {sent tail before after : List Event} {seg : List Byte} (h : Ending t tail)
    (hsent : ∀ e ∈ sent, e.isSent = true) (hes : sent ++ tail = before ++ .write seg .fail :: after) :
    after = [.result .transportWriteError] ∧ t.res = .transportWriteError ∧ t.seq = .idle := by
  have notSent (bytes : List Byte) : .write bytes .fail ∉ sent := fun hm => nomatch hsent _ hm
  have hmem : .write seg .fail ∈ sent ++ tail := by simp [hes]
  obtain rfl | rfl | ⟨bytes, rfl, hres, hseq⟩ := h
  · simp [notSent] at hmem
  · simp [notSent] at hmem
  · obtain ⟨-, -, rfl⟩ := (List.append_cons_inj_of_notMem (notSent seg) (by simp)).mp hes
    exact ⟨rfl, hres, hseq⟩

/-- The result TransportWriteError stands only in the ending with a failed write. -/
theorem Ending.failed_write_of_result {t : State} {sent tail : List Event} (h : Ending t tail)
    (hsent : ∀ e ∈ sent, e.isSent = true) (hmem : .result .transportWriteError ∈ sent ++ tail) :
    ∃ seg, .write seg .fail ∈ sent ++ tail := by
  have notSent : .result .transportWriteError ∉ sent := fun hm => nomatch hsent _ hm
  obtain rfl | rfl | ⟨bytes, rfl, -, -⟩ := h
  · simp [notSent] at hmem
  · simp [notSent] at hmem
  · exact ⟨bytes, by simp⟩

end Sys2Proof.Machine

namespace Sys2Proof.Proofs

/-- Settles O44, from the events of a request: what was sent, and its ending. -/
theorem firstFailedWriteEndsTheRequest : Obligations.FirstFailedWriteEndsTheRequest := by
  intro i s t es h hh
  obtain hoff | ⟨hs, ht, sent, tail, rfl, hsent, hend⟩ := exec_events h hh
  · refine ⟨fun before seg after hes => ?_, fun hmem => nomatch hoff _ hmem⟩
    exact nomatch hoff (.write seg .fail) (by simp [hes])
  · refine ⟨fun before seg after hes => ?_, hend.failed_write_of_result hsent⟩
    obtain ⟨hafter, hres, hseq⟩ := hend.of_failed_write hsent hes
    exact ⟨hafter, hres, hseq, hs, ht⟩

/-- Settles O49: a request that is not admitted from Open adds no write and no wait. -/
theorem transportIsWrittenOnlyWhileOpen : Obligations.TransportIsWrittenOnlyWhileOpen := by
  intro i s t es h hh hmem
  obtain hoff | ⟨hs, -⟩ := exec_events h hh
  · obtain ⟨seg, reply, hmem⟩ | hmem := hmem <;> exact nomatch hoff _ hmem
  · exact hs

/-- Settles O51: each step only adds events, and the wire stream is read off them in order. -/
theorem runsOnlyExtendTheHistory : Obligations.RunsOnlyExtendTheHistory := by
  intro k s t h
  have hprefix : s.history <+: t.history :=
    run_relates (M := core) (R := fun s t : State => s.history <+: t.history) (fun _ => List.prefix_refl _)
      (fun _ _ _ => List.IsPrefix.trans) (fun _ _ => step_history_prefix) h
  obtain ⟨es, hes⟩ := hprefix
  exact ⟨es, hes.symm, by rw [← hes, wireStream_append]⟩

end Sys2Proof.Proofs
end

section
/-! PROOFS of the family 20_memory. The inputs of the stores' owner, and what PrintImage reads of `IMG`. -/

open Sys2Proof Sys2Proof.Machine Sys2Proof.Statements

namespace Sys2Proof.Machine

/-! ### What PrintImage reads of the image (R51, R53, R206) -/

/-- R206: the source column or row of an output one is inside the source. -/
theorem sourceCoord_lt {n d x : Nat} (hn : 0 < n) (hx : x < d) : sourceCoord n d x < n :=
  Nat.div_lt_of_lt_mul (Nat.mul_lt_mul_of_pos_right hx hn)

/-- Two images have ink at the same pixels of a rectangle at the origin. -/
def SameInk (img img' : Memory 24) (sw sh : Nat) : Prop :=
  ∀ x y, x < sw → y < sh → inkSource img x y = inkSource img' x y

theorem sameInk_iff {img img' : Memory 24} {sw sh : Nat} :
    SameInk img img' sw sh ↔
      ∀ x y, x < sw → y < sh → (readPixel img x y = 0x000000#24 ↔ readPixel img' x y = 0x000000#24) := by
  refine forall₄_congr fun x y _ _ => ?_
  rw [Bool.eq_iff_iff, inkSource, inkSource, beq_iff_eq, beq_iff_eq, Config.black]

section
variable {img img' : Memory 24} {sw sh dw dh : Nat} (h : SameInk img img' sw sh) (hsw : 0 < sw) (hsh : 0 < sh)
include h hsw hsh

theorem SameInk.rasterBit_eq {y : Nat} (hy : y < dh) (x : Nat) :
    rasterBit img sw sh dw dh x y = rasterBit img' sw sh dw dh x y := by
  unfold rasterBit ink
  by_cases hx : x < dw
  · rw [h _ _ (sourceCoord_lt hsw hx) (sourceCoord_lt hsh hy)]
  · simp [hx]

theorem SameInk.rasterRow_eq {y : Nat} (hy : y < dh) : rasterRow img sw sh dw dh y = rasterRow img' sw sh dw dh y := by
  simp only [rasterRow, packByte, h.rasterBit_eq hsw hsh hy]

theorem SameInk.rasterBody_eq : rasterBody img sw sh dw dh = rasterBody img' sw sh dw dh :=
  List.flatMap_congr fun _ hy => h.rasterRow_eq hsw hsh (List.mem_range.mp hy)

end

/-- An image that passes its checks has pixels (R202). -/
theorem dims_pos_of_imageFault {sw sh : Nat} {scale : Half} (h : imageFault sw sh scale = none) : 0 < sw ∧ 0 < sh := by
  unfold imageFault at h
  split at h
  next => cases h
  next hdims => omega

theorem SameInk.microsOf_printImage {img : Memory 24} {sw sh : Nat} {s : State} (h : SameInk img s.img sw sh)
    (scale dark : Half) :
    microsOf (.printImage sw sh scale dark) { s with img := img } = microsOf (.printImage sw sh scale dark) s := by
  cases hf : imageFault sw sh scale with
  | some c => simp only [microsOf, hf]
  | none =>
    obtain ⟨hsw, hsh⟩ := dims_pos_of_imageFault hf
    simp only [microsOf, hf, rasterMicros, h.rasterBody_eq hsw hsh]

/-- The state an operation leaves, changed by `f`. -/
def Performed.map (f : State → State) : Performed → Performed
  | .done s => .done (f s)
  | .failed e s => .failed e (f s)
  | .unanswered => .unanswered

/-- No operation reads or writes the image. -/
theorem perform_withImg (a : Act) (s : State) (img : Memory 24) :
    perform a { s with img := img } = (perform a s).map fun t => { t with img := img } := by
  cases a with
  | segment bytes => rcases hw : s.writeReplies with _ | ⟨_ | _, rest⟩ <;> simp only [perform, hw] <;> rfl
  | wait => rcases hw : s.waitEnds with _ | n <;> simp only [perform, hw] <;> rfl
  | tOpen ident => rcases hw : s.openReplies with _ | ⟨_ | _, rest⟩ <;> simp only [perform, hw] <;> rfl

/-- A run of given moves neither reads nor writes the image. -/
theorem runMicros_withImg (ms : List Micro) (s : State) (img : Memory 24) :
    runMicros ms { s with img := img } = { runMicros ms s with img := img } := by
  induction ms generalizing s with
  | nil => rfl
  | cons m ms ih =>
    cases m with
    | write f => exact ih (s.configure f)
    | act p a =>
      have hperform : perform a (State.moveTo p { s with img := img }) =
        (perform a (s.moveTo p)).map fun t => { t with img := img } := perform_withImg a (s.moveTo p) img
      cases hp : perform a (s.moveTo p) with
      | done t => rw [runMicros_done ms hp, runMicros_done ms (by rw [hperform, hp]; rfl), ih]
      | failed e t => rw [runMicros_failed ms hp, runMicros_failed ms (by rw [hperform, hp]; rfl)]; rfl
      | unanswered => rw [runMicros_unanswered ms hp, runMicros_unanswered ms (by rw [hperform, hp]; rfl)]; rfl

/-- A request whose moves are the same under another image takes the same course under it. -/
theorem course_withImg {i : Instr} {s : State} {img : Memory 24} (h : microsOf i { s with img := img } = microsOf i s) :
    course i { s with img := img } = { course i s with img := img } := by
  unfold course
  cases refusal i s.sess s.tWritable with
  | some c => rfl
  | none => exact (congrArg (runMicros · _) h).trans (runMicros_withImg _ s img)

end Sys2Proof.Machine

namespace Sys2Proof.Proofs

/-- Settles O12: a step takes the input (log 4), and the canonical stores read back what was stored. -/
theorem inputsChangeWhatTheyName : Obligations.InputsChangeWhatTheyName := by
  refine ⟨fun s x y p rest hinv hs hi => ?_, fun s i b rest hinv hs hi => ?_, fun s level rest hs hi => ?_⟩
  · refine ⟨writePixel s.img x.toNat y.toNat p, step_idle_input hs hi nofun, fun x' y' hx' _ => ?_⟩
    exact readPixel_writePixel _ _ _ _ _ x.isLt hx' hinv.storesWf.1
  · exact ⟨writeBarcodeByte s.bcd i.toNat b, step_idle_input hs hi nofun,
      fun j => readBarcodeByte_write _ j _ hinv.storesWf.2⟩
  · exact step_idle_input hs hi nofun

/-- Settles O36: every pixel read is inside the rectangle (R206), so the two bodies are equal. -/
theorem onlyInkInsideTheImageMatters : Obligations.OnlyInkInsideTheImageMatters := by
  intro sw sh scale dark s t img hink h
  rw [exec_eq_course (i := .printImage sw sh scale dark) _ nofun] at h ⊢
  cases h
  exact congrArg _ (course_withImg ((sameInk_iff.mpr hink).microsOf_printImage scale dark))

end Sys2Proof.Proofs
end

section
/-! PROOFS of the family 30_encoding. Byte lists as numbers, the rows of the table and why no two begin alike, the words
of the directives, and the cutting of a stream of them. -/

open Sys2Proof Sys2Proof.Machine Sys2Proof.Statements Sys2Proof.Laws

namespace Sys2Proof

/-! ### Byte lists as numbers (INDEX.md) -/

theorem beNat_concat (bs : List Byte) (b : Byte) : beNat (bs ++ [b]) = beNat bs * 256 + b.toNat := by
  simp [beNat]

/-- A shift by whole bytes drops the last bytes. -/
theorem beNat_append_shiftRight (as bs : List Byte) : beNat (as ++ bs) >>> (8 * bs.length) = beNat as := by
  induction bs using List.reverseRecOn with
  | nil => simp
  | append_singleton bs b ih =>
    have hb : (beNat (as ++ bs) * 256 + b.toNat) >>> 8 = beNat (as ++ bs) := by
      have := b.isLt
      rw [Nat.shiftRight_eq_div_pow]
      omega
    rw [← List.append_assoc, beNat_concat, List.length_append, List.length_singleton,
      show 8 * (bs.length + 1) = 8 + 8 * bs.length by omega, Nat.shiftRight_add, hb, ih]

theorem beNat_take_shiftRight {bs : List Byte} {m n : Nat} (hnm : n ≤ m) (hm : m ≤ bs.length) :
    beNat (bs.take m) >>> (8 * (m - n)) = beNat (bs.take n) := by
  have h := beNat_append_shiftRight (bs.take n) ((bs.take m).drop n)
  have hsplit := List.take_append_drop n (bs.take m)
  rw [List.take_take, Nat.min_eq_left hnm] at hsplit
  rwa [hsplit, List.length_drop, List.length_take, Nat.min_eq_left hm] at h

/-- Byte `k` of a byte list is byte `k` of its number. -/
theorem wordByte_beNat (bs : List Byte) {k : Nat} (hk : k < bs.length) :
    wordByte bs.length k (beNat bs) = bs[k] := by
  have h := beNat_take_shiftRight (Nat.succ_le_of_lt hk) (Nat.le_refl bs.length)
  rw [List.take_length, show bs.length - (k + 1) = bs.length - 1 - k by omega, List.take_add_one,
    List.getElem?_eq_getElem hk, Option.toList_some, beNat_concat] at h
  have := bs[k].isLt
  exact BitVec.eq_of_toNat_eq (by rw [wordByte, h, BitVec.toNat_ofNat]; omega)

theorem beNat_lt (bs : List Byte) : beNat bs < 256 ^ bs.length := by
  induction bs using List.reverseRecOn with
  | nil => exact Nat.one_pos
  | append_singleton bs b ih =>
    have := b.isLt
    rw [beNat_concat, List.length_append, List.length_singleton, Nat.pow_succ]
    omega

theorem and_byte_step (m n : Nat) (a b : Byte) :
    (m * 256 + a.toNat) &&& (n * 256 + b.toNat) = (m &&& n) * 256 + (a &&& b).toNat := by
  have ha := a.isLt
  have hb := b.isLt
  have hdiv := Nat.and_div_two_pow (a := m * 256 + a.toNat) (b := n * 256 + b.toNat) (n := 8)
  have hmod := Nat.and_mod_two_pow (a := m * 256 + a.toNat) (b := n * 256 + b.toNat) (n := 8)
  rw [show (m * 256 + a.toNat) / 2 ^ 8 = m by omega, show (n * 256 + b.toNat) / 2 ^ 8 = n by omega] at hdiv
  rw [show (m * 256 + a.toNat) % 2 ^ 8 = a.toNat by omega, show (n * 256 + b.toNat) % 2 ^ 8 = b.toNat by omega,
    ← BitVec.toNat_and] at hmod
  omega

/-- Two numbers are masked byte by byte. -/
theorem beNat_and {as bs : List Byte} (h : as.length = bs.length) :
    beNat as &&& beNat bs = beNat (List.zipWith (· &&& ·) as bs) := by
  induction as using List.reverseRecOn generalizing bs with
  | nil => obtain rfl := List.length_eq_zero_iff.mp h.symm; rfl
  | append_singleton as a ih =>
    obtain rfl | ⟨bs, b, rfl⟩ := bs.eq_nil_or_concat
    · simp at h
    · have hlen : as.length = bs.length := by simpa using h
      rw [List.concat_eq_append, List.zipWith_append hlen, List.zipWith_cons_cons, List.zipWith_nil_left,
        beNat_concat, beNat_concat, beNat_concat, and_byte_step, ih hlen]

/-! ### The rows of the table (R84) -/

/-- The pattern or mask `x` of a row of `m` bytes, cut to its first `n` bytes. -/
def headWord (m n x : Nat) : Nat := x >>> (8 * (m - n))

/-- Some bit of the first bytes is given by both rows, and not alike. -/
def TableRow.Apart (r q : TableRow) : Prop :=
  let n := min r.bytes q.bytes
  headWord r.bytes n r.pattern &&& headWord q.bytes n q.mask ≠
    headWord q.bytes n q.pattern &&& headWord r.bytes n r.mask

theorem TableRow.Apart.symm {r q : TableRow} (h : r.Apart q) : q.Apart r := by
  unfold TableRow.Apart at h ⊢
  rw [Nat.min_comm]
  exact h.symm

/-- The table has no two rows that begin alike (R85): the one fact about all its rows. -/
theorem tableRows_apart : tableRows.Pairwise TableRow.Apart := by
  unfold TableRow.Apart; decide

theorem TableRow.opens_iff {row : TableRow} {bs : List Byte} :
    row.opens bs = true ↔ row.bytes ≤ bs.length ∧ beNat (bs.take row.bytes) &&& row.mask = row.pattern := by
  simp [TableRow.opens]

theorem TableRow.holds_iff {row : TableRow} {bs : List Byte} :
    row.holds (8 * bs.length) (beNat bs) = true ↔ row.bytes = bs.length ∧ beNat bs &&& row.mask = row.pattern := by
  simp [TableRow.holds]

theorem TableRow.opens_head {row : TableRow} {bs : List Byte} {n : Nat} (h : row.opens bs = true)
    (hn : n ≤ row.bytes) :
    beNat (bs.take n) &&& headWord row.bytes n row.mask = headWord row.bytes n row.pattern := by
  obtain ⟨hlen, hword⟩ := opens_iff.mp h
  rw [headWord, headWord, ← hword, Nat.shiftRight_and_distrib, beNat_take_shiftRight hn hlen]

theorem TableRow.Apart.not_both_open {r q : TableRow} (h : r.Apart q) {bs : List Byte} (hr : r.opens bs = true) :
    q.opens bs = false := by
  refine Bool.eq_false_iff.mpr fun hq => h ?_
  rw [← opens_head hr (Nat.min_le_left _ _), ← opens_head hq (Nat.min_le_right _ _)]
  exact Nat.and_right_comm _ _ _

theorem length_filter_opens_le_one {rows : List TableRow} (h : rows.Pairwise TableRow.Apart) (bs : List Byte) :
    (rows.filter (fun row => row.opens bs)).length ≤ 1 := by
  induction rows with
  | nil => exact Nat.zero_le 1
  | cons row rows ih =>
    obtain ⟨hrow, hrows⟩ := List.pairwise_cons.mp h
    by_cases ho : row.opens bs = true
    · have hnone : rows.filter (fun row => row.opens bs) = [] :=
        List.filter_eq_nil_iff.mpr fun q hq => by simp [(hrow q hq).not_both_open ho]
      simp [ho, hnone]
    · simpa [ho] using ih hrows

theorem eq_of_opens {r q : TableRow} {bs : List Byte} (hr : r ∈ tableRows) (hq : q ∈ tableRows)
    (hro : r.opens bs = true) (hqo : q.opens bs = true) : r = q := by
  by_contra hne
  have : Std.Symm TableRow.Apart := ⟨fun _ _ => TableRow.Apart.symm⟩
  simp [(tableRows_apart.forall hr hq hne).not_both_open hro] at hqo

theorem mem_tableRows {row : TableRow} (h : row ∈ wireRows) : row ∈ tableRows := List.mem_append_left _ h

theorem find?_eq_some_of_unique {α : Type} {p : α → Bool} {l : List α} {a : α} (ha : a ∈ l) (hp : p a = true)
    (hu : ∀ b ∈ l, p b = true → b = a) : l.find? p = some a := by
  cases h : l.find? p with
  | none => exact absurd hp (List.find?_eq_none.mp h a ha)
  | some b => rw [hu b (List.mem_of_find?_eq_some h) (List.find?_some h)]

/-- A row that a byte list begins with is the one the cutter finds (R85). -/
theorem find?_opens {row : TableRow} {bs : List Byte} (hrow : row ∈ wireRows) (h : row.opens bs = true) :
    wireRows.find? (fun row => row.opens bs) = some row :=
  find?_eq_some_of_unique hrow h fun _ hq hqo => eq_of_opens (mem_tableRows hq) (mem_tableRows hrow) hqo h

theorem TableRow.opens_of_holds {row : TableRow} {bs : List Byte} (h : row.holds (8 * bs.length) (beNat bs) = true) :
    row.opens bs = true := by
  obtain ⟨hlen, hword⟩ := holds_iff.mp h
  rw [opens_iff, hlen, List.take_length]
  exact ⟨le_rfl, hword⟩

theorem TableRow.opens_append {row : TableRow} {bs : List Byte} (h : row.opens bs = true) (rest : List Byte) :
    row.opens (bs ++ rest) = true := by
  obtain ⟨hlen, hword⟩ := opens_iff.mp h
  rw [opens_iff, List.take_append_of_le_length hlen]
  exact ⟨by rw [List.length_append]; omega, hword⟩

/-- The bytes are a word of the row, and the request the row gives for that word is dispatched to `i`. -/
structure TableRow.Reads (row : TableRow) (bs : List Byte) (i : Instr) : Prop where
  holds : row.holds (8 * bs.length) (beNat bs) = true
  request : ∃ r, row.request (beNat bs) = some r ∧ decode r = .ok i

theorem TableRow.Reads.decodes {row : TableRow} {bs : List Byte} {i : Instr} (h : row.Reads bs i)
    (hrow : row ∈ tableRows) : decodeTableWord (8 * bs.length) (beNat bs) = some i := by
  obtain ⟨r, hr, hd⟩ := h.request
  have hfind : tableRows.find? (fun row => row.holds (8 * bs.length) (beNat bs)) = some row :=
    find?_eq_some_of_unique hrow h.holds fun _ hq hqh =>
      eq_of_opens hq hrow (opens_of_holds hqh) (opens_of_holds h.holds)
  simp [Sys2Proof.decodeTableWord, requestOfTableWord, hfind, hr, hd]

/-- A byte list is a word of a row when its masked bytes are the pattern's. -/
theorem TableRow.holds_of_bytes {row : TableRow} {bs : List Byte} (masks pats : List Byte)
    (hmask : beNat masks = row.mask := by rfl) (hpat : beNat pats = row.pattern := by rfl)
    (hrow : row.bytes = bs.length := by rfl) (hlen : bs.length = masks.length := by rfl)
    (h : List.zipWith (· &&& ·) bs masks = pats) : row.holds (8 * bs.length) (beNat bs) = true :=
  holds_iff.mpr ⟨hrow, by rw [← hmask, beNat_and hlen, h, hpat]⟩

/-! ### The words of fixed-length directives (R84) -/

theorem rowConst_reads (bs : List Byte) {op a0 : Byte} {i : Instr} (hd : decode (scalarRequest op a0 0#8 0#8) = .ok i) :
    (rowConst bs.length (beNat bs) op a0).Reads bs i where
  holds := by
    have hword : beNat bs &&& (256 ^ bs.length - 1) = beNat bs := by
      have hlt := beNat_lt bs
      rw [show (256 : Nat) = 2 ^ 8 from rfl, ← Nat.pow_mul] at hlt ⊢
      rw [Nat.and_two_pow_sub_one_eq_mod, Nat.mod_eq_of_lt hlt]
    exact TableRow.holds_iff.mpr ⟨rfl, hword⟩
  request := ⟨_, rfl, hd⟩

/-- A row with its operand in byte 2 reads that byte. -/
theorem rowA0_reads (bs : List Byte) {pattern mask : Nat} {op : Byte} {i : Instr} (hlen : 2 < bs.length)
    (hword : (rowA0 bs.length pattern mask op).holds (8 * bs.length) (beNat bs) = true)
    (hd : decode (scalarRequest op bs[2] 0#8 0#8) = .ok i) : (rowA0 bs.length pattern mask op).Reads bs i where
  holds := hword
  request := ⟨_, rfl, by rw [wordByte_beNat bs hlen]; exact hd⟩

theorem and_0xFF (b : Byte) : b &&& 0xFF#8 = b := BitVec.and_allOnes

/-- Two opcode bytes and an operand byte, of which the row fixes the bits of `m` (formats P1, P1W). -/
theorem operandByte_reads (x y m : Byte) {n z : Byte} {pattern mask : Nat} {op : Byte} {i : Instr} (hn : n &&& m = z)
    (hmask : beNat [0xFF#8, 0xFF#8, m] = mask) (hpat : beNat [x, y, z] = pattern)
    (hd : decode (scalarRequest op n 0#8 0#8) = .ok i) : (rowA0 3 pattern mask op).Reads [x, y, n] i :=
  rowA0_reads [x, y, n] (by simp)
    (TableRow.holds_of_bytes _ _ hmask hpat (h := by simp [and_0xFF, hn])) hd

theorem b2u_and_0xFE (on : Bool) : b2u on &&& 0xFE#8 = 0x00#8 := by cases on <;> rfl

theorem clampLeftBlank_and_0xC0 (n : Byte) : clampLeftBlank n &&& 0xC0#8 = 0x00#8 := by
  have hdiv := Nat.and_div_two_pow (a := min n.toNat 47) (b := 0xC0) (n := 6)
  have hmod := Nat.and_mod_two_pow (a := min n.toNat 47) (b := 0xC0) (n := 6)
  rw [show min n.toNat 47 / 2 ^ 6 = 0 by omega, Nat.zero_and] at hdiv
  rw [show 0xC0 % 2 ^ 6 = 0 from rfl, Nat.and_zero] at hmod
  apply BitVec.eq_of_toNat_eq
  rw [clampLeftBlank, BitVec.toNat_and, BitVec.toNat_ofNat, Config.leftBlankMax, Nat.mod_eq_of_lt (by omega)]
  change _ &&& 0xC0 = 0
  omega

theorem clampBarcodeWidth_and_0xFE (w : Byte) : clampBarcodeWidth w &&& 0xFE#8 = 0x02#8 := by
  unfold clampBarcodeWidth
  split <;> rfl

theorem setControlParameter_reads (d t i : Byte) :
    wireRows[2].Reads [0x1B#8, 0x37#8, d, t, i] (.setControlParameter d t i) where
  holds := TableRow.holds_of_bytes [0xFF#8, 0xFF#8, 0x00#8, 0x00#8, 0x00#8]
    [0x1B#8, 0x37#8, 0x00#8, 0x00#8, 0x00#8] (h := by simp)
  request := by
    have hbyte (k : Nat) (hk : k < 5) : wordByte 5 k (beNat [0x1B#8, 0x37#8, d, t, i]) = [0x1B#8, 0x37#8, d, t, i][k] :=
      wordByte_beNat [0x1B#8, 0x37#8, d, t, i] hk
    exact ⟨_, rfl, by rw [hbyte 2 (by decide), hbyte 3 (by decide), hbyte 4 (by decide)]; rfl⟩

theorem setSleepTime_reads (sec : Byte) : wireRows[3].Reads [0x1B#8, 0x38#8, sec, 0xFF#8] (.setSleepTime sec) :=
  rowA0_reads [0x1B#8, 0x38#8, sec, 0xFF#8] (by simp)
    (TableRow.holds_of_bytes [0xFF#8, 0xFF#8, 0x00#8, 0xFF#8] [0x1B#8, 0x38#8, 0x00#8, 0xFF#8] (h := by simp)) rfl

theorem setBold_reads (on : Bool) :
    wireRows[14].Reads [0x1B#8, 0x20#8, b2u on, 0x1B#8, 0x45#8, b2u on] (.setBold on) :=
  rowA0_reads [0x1B#8, 0x20#8, b2u on, 0x1B#8, 0x45#8, b2u on] (by simp)
    (TableRow.holds_of_bytes [0xFF#8, 0xFF#8, 0xFE#8, 0xFF#8, 0xFF#8, 0xFE#8]
      [0x1B#8, 0x20#8, 0x00#8, 0x1B#8, 0x45#8, 0x00#8] (h := by simp [b2u_and_0xFE]))
    (RoundTrip.setBold on rfl)

theorem setKeyPanel_reads (on : Bool) :
    wireRows[18].Reads [0x1B#8, 0x63#8, 0x35#8, b2u on] (.setKeyPanel on) where
  holds := TableRow.holds_of_bytes [0xFF#8, 0xFF#8, 0xFF#8, 0xFE#8] [0x1B#8, 0x63#8, 0x35#8, 0x00#8]
    (h := by simp [b2u_and_0xFE])
  request := by
    have hbyte : wordByte 4 3 (beNat [0x1B#8, 0x63#8, 0x35#8, b2u on]) = b2u on :=
      wordByte_beNat [0x1B#8, 0x63#8, 0x35#8, b2u on] (by simp)
    exact ⟨_, rfl, by rw [hbyte]; exact RoundTrip.setKeyPanel on rfl⟩

/-- The two parts of the packed byte (R93). -/
theorem packDensity_parts (density breakTime : Byte) :
    packDensity density breakTime &&& 0x1F#8 =
      BitVec.ofNat 8 (((breakTime.toNat <<< 5) ||| density.toNat) % 32) ∧
    packDensity density breakTime >>> 5 =
      BitVec.ofNat 8 (((breakTime.toNat <<< 5) ||| density.toNat) / 32 % 8) := by
  unfold packDensity
  generalize breakTime.toNat <<< 5 ||| density.toNat = p
  constructor <;> apply BitVec.eq_of_toNat_eq
  · have h : p % 256 &&& 31 = p % 256 % 32 := Nat.and_two_pow_sub_one_eq_mod (p % 256) 5
    change p % 256 &&& 31 = p % 32 % 256
    omega
  · simp only [BitVec.toNat_ushiftRight, BitVec.toNat_ofNat, Nat.shiftRight_eq_div_pow]
    omega

theorem setPrintDensity_reads (density breakTime : Byte) :
    wireRows[6].Reads [0x12#8, 0x23#8, packDensity density breakTime]
      (asSent (.setPrintDensity density breakTime)) where
  holds := TableRow.holds_of_bytes [0xFF#8, 0xFF#8, 0x00#8] [0x12#8, 0x23#8, 0x00#8] (h := by simp)
  request := by
    obtain ⟨hlow, hhigh⟩ := packDensity_parts density breakTime
    have hbyte :
        wordByte 3 2 (beNat [0x12#8, 0x23#8, packDensity density breakTime]) = packDensity density breakTime :=
      wordByte_beNat [0x12#8, 0x23#8, packDensity density breakTime] (by simp)
    exact ⟨_, rfl, by rw [hbyte, hlow, hhigh]; rfl⟩

section
variable (x y : Byte) {pattern : Nat} {op : Byte} {i : Instr} (hpat : beNat [x, y, 0x00#8] = pattern)
include hpat

theorem rawByte_reads (n : Byte) (hd : decode (scalarRequest op n 0#8 0#8) = .ok i) :
    (rowA0 3 pattern 0xFFFF00 op).Reads [x, y, n] i :=
  operandByte_reads x y 0x00#8 BitVec.and_zero rfl hpat hd

theorem flagByte_reads (on : Bool) (hd : decode (scalarRequest op (b2u on) 0#8 0#8) = .ok i) :
    (rowA0 3 pattern 0xFFFFFE op).Reads [x, y, b2u on] i :=
  operandByte_reads x y 0xFE#8 (b2u_and_0xFE on) rfl hpat hd

end

/-- The bytes are a word of a wire row of fixed length, which reads them as `i`. -/
def FixedWord (bs : List Byte) (i : Instr) : Prop := ∃ row ∈ wireRows, row.tail = .fixed ∧ row.Reads bs i

theorem FixedWord.of_row {bs : List Byte} {i : Instr} (k : Nat) (hk : k < wireRows.length := by decide)
    (htail : wireRows[k].tail = .fixed := by rfl) (hr : wireRows[k].Reads bs i) : FixedWord bs i :=
  ⟨wireRows[k], List.getElem_mem hk, htail, hr⟩

/-- The bytes of a directive of fixed length are a word of a row of fixed length, which reads them as sent (R84). -/
theorem fixedWord_sentBytes {i : Instr} (h : fixedLength i = true) (s : State) :
    FixedWord (sentBytes (microsOf i s)) (asSent i) := by
  cases i with
  | printBarcode _ _ | printImage _ _ _ _ | openSession _ | closeSession | initSequence => cases h
  | reset => exact .of_row 0 (hr := rowConst_reads [0x1B#8, 0x40#8] rfl)
  | setStatus on => exact .of_row 1 (hr := flagByte_reads 0x1B#8 0x3D#8 rfl on (RoundTrip.setStatus on rfl))
  | setControlParameter d t iv => exact .of_row 2 (hr := setControlParameter_reads d t iv)
  | setSleepTime sec => exact .of_row 3 (hr := setSleepTime_reads sec)
  | setDoubleWidthOn => exact .of_row 4 (hr := rowConst_reads [0x1B#8, 0x0E#8] rfl)
  | setDoubleWidthOff => exact .of_row 5 (hr := rowConst_reads [0x1B#8, 0x14#8] rfl)
  | setPrintDensity density breakTime => exact .of_row 6 (hr := setPrintDensity_reads density breakTime)
  | setCharacterSet set => exact .of_row 7 (hr := rawByte_reads 0x1B#8 0x52#8 rfl set rfl)
  | setCodeTable table => exact .of_row 8 (hr := rawByte_reads 0x1B#8 0x74#8 rfl table rfl)
  | feed => exact .of_row 9 (hr := rowConst_reads [0x0A#8] rfl)
  | feedN n => exact .of_row 10 (hr := rawByte_reads 0x1B#8 0x4A#8 rfl n rfl)
  | setLineSpacing n => exact .of_row 11 (hr := rawByte_reads 0x1B#8 0x33#8 rfl n rfl)
  | setAlign mode => exact .of_row 12 (hr := rawByte_reads 0x1B#8 0x61#8 rfl mode rfl)
  | setLeftBlank n =>
    exact .of_row 13 (hr := operandByte_reads 0x1B#8 0x42#8 0xC0#8 (clampLeftBlank_and_0xC0 n) rfl rfl rfl)
  | setBold on => exact .of_row 14 (hr := setBold_reads on)
  | setReverse on => exact .of_row 15 (hr := flagByte_reads 0x1D#8 0x42#8 rfl on (RoundTrip.setReverse on rfl))
  | setUpDown on => exact .of_row 16 (hr := flagByte_reads 0x1B#8 0x7B#8 rfl on (RoundTrip.setUpDown on rfl))
  | setUnderline on => exact .of_row 17 (hr := flagByte_reads 0x1B#8 0x2D#8 rfl on (RoundTrip.setUnderline on rfl))
  | setKeyPanel on => exact .of_row 18 (hr := setKeyPanel_reads on)
  | setBarcodeReadablePosition n => exact .of_row 19 (hr := rawByte_reads 0x1D#8 0x48#8 rfl n rfl)
  | setBarcodeHeight n => exact .of_row 20 (hr := rawByte_reads 0x1D#8 0x68#8 rfl (clampBarcodeHeight n) rfl)
  | setBarcodeWidth w =>
    exact .of_row 21 (hr := operandByte_reads 0x1D#8 0x77#8 0xFE#8 (clampBarcodeWidth_and_0xFE w) rfl rfl rfl)

/-! ### Cutting the stream (R85, R86) -/

section
variable {row : TableRow} {bs : List Byte} (hrow : row ∈ wireRows) (h : row.opens bs = true)
include hrow h

theorem wireLength_fixed (htail : row.tail = .fixed) : wireLength bs = .ok row.bytes := by
  simp only [wireLength, find?_opens hrow h, htail]

theorem wireLength_nulTerminated {k : Nat} (htail : row.tail = .nulTerminated)
    (hk : (bs.drop row.bytes).findIdx? (fun b => b == 0x00#8) = some k) : wireLength bs = .ok (row.bytes + k + 1) := by
  simp only [wireLength, find?_opens hrow h, htail, hk]

theorem wireLength_raster {bpl dh : Nat} (htail : row.tail = .raster)
    (hbpl : (wordByte 8 4 (beNat (bs.take 8))).toNat + 256 * (wordByte 8 5 (beNat (bs.take 8))).toNat = bpl)
    (hdh : (wordByte 8 6 (beNat (bs.take 8))).toNat + 256 * (wordByte 8 7 (beNat (bs.take 8))).toNat = dh)
    (htrailer : (bs.drop (8 + bpl * dh)).head? = some 0x0A#8) : wireLength bs = .ok (8 + bpl * dh + 1) := by
  simp only [wireLength, find?_opens hrow h, htail, hbpl, hdh, htrailer, BEq.rfl, if_true]

end

/-- Whatever follows the bytes on the wire, the cutter finds where they end. -/
def SelfDelimiting (d : List Byte) : Prop := ∀ rest, wireLength (d ++ rest) = .ok d.length

theorem FixedWord.selfDelimiting {bs : List Byte} {i : Instr} (h : FixedWord bs i) : SelfDelimiting bs := by
  intro rest
  obtain ⟨row, hrow, htail, hreads⟩ := h
  obtain ⟨hlen, -⟩ := TableRow.holds_iff.mp hreads.holds
  rw [← hlen]
  exact wireLength_fixed hrow (TableRow.opens_append (TableRow.opens_of_holds hreads.holds) rest) htail

/-- The first `00` after a barcode's header is its terminator (R307). -/
theorem selfDelimiting_barcode (kind : Byte) {data : List Byte} (hdata : 0x00#8 ∉ data) :
    SelfDelimiting ([0x1D#8, 0x6B#8, kind] ++ data ++ [0x00#8]) := by
  intro rest
  have hword : wireRows[22].opens [0x1D#8, 0x6B#8, kind] = true :=
    TableRow.opens_of_holds (TableRow.holds_of_bytes [0xFF#8, 0xFF#8, 0x00#8] [0x1D#8, 0x6B#8, 0x00#8] (h := by simp))
  have hnone : data.findIdx? (fun b => b == 0x00#8) = none :=
    List.findIdx?_eq_none_iff.mpr fun b hb => beq_eq_false_iff_ne.mpr fun h0 => hdata (h0 ▸ hb)
  have hfind : (data ++ ([0x00#8] ++ rest)).findIdx? (fun b => b == 0x00#8) = some data.length := by
    simp [List.findIdx?_append, hnone, List.findIdx?_cons]
  have h := wireLength_nulTerminated (List.getElem_mem _)
    (TableRow.opens_append hword (data ++ ([0x00#8] ++ rest))) rfl hfind
  simp only [List.append_assoc]
  refine h.trans (congrArg Except.ok ?_)
  change 3 + data.length + 1 = _
  simp only [List.length_append, List.length_cons, List.length_nil]
  omega

/-- A length field is read back from its two bytes (R94). -/
theorem le16_toNat {v : Nat} (h : v ≤ Config.fieldMax) :
    (BitVec.ofNat 8 v).toNat + 256 * (BitVec.ofNat 8 (v >>> 8)).toNat = v := by
  have : v ≤ 65535 := h
  rw [BitVec.toNat_ofNat, BitVec.toNat_ofNat, Nat.shiftRight_eq_div_pow]
  omega

@[simp] theorem length_rasterHeader (bpl dh : Nat) : (rasterHeader bpl dh).length = 8 := rfl

theorem length_rasterBody (img : Memory 24) (sw sh dw dh : Nat) :
    (rasterBody img sw sh dw dh).length = bytesPerLine dw * dh := by
  simp [rasterBody, rasterRow, Nat.mul_comm]

/-- The two fields of a raster header, read from its word (R209). -/
theorem rasterHeader_fields {bpl dh w : Nat} (hbpl : bpl ≤ Config.fieldMax) (hdh : dh ≤ Config.fieldMax)
    (hw : beNat (rasterHeader bpl dh) = w) :
    (wordByte 8 4 w).toNat + 256 * (wordByte 8 5 w).toNat = bpl ∧
    (wordByte 8 6 w).toNat + 256 * (wordByte 8 7 w).toNat = dh := by
  subst hw
  have hbyte (k : Nat) (hk : k < 8) : wordByte 8 k (beNat (rasterHeader bpl dh)) = (rasterHeader bpl dh)[k] :=
    wordByte_beNat (rasterHeader bpl dh) hk
  rw [hbyte 4 (by decide), hbyte 5 (by decide), hbyte 6 (by decide), hbyte 7 (by decide)]
  exact ⟨le16_toNat hbpl, le16_toNat hdh⟩

/-- A frame whose header announces the body's length ends with the trailer after it (R209, R212). -/
theorem selfDelimiting_raster {bpl dh : Nat} {body : List Byte} (hbpl : bpl ≤ Config.fieldMax)
    (hdh : dh ≤ Config.fieldMax) (hbody : body.length = bpl * dh) :
    SelfDelimiting (rasterHeader bpl dh ++ body ++ rasterTrailer) := by
  intro rest
  have hword : wireRows[23].opens (rasterHeader bpl dh) = true :=
    TableRow.opens_of_holds (TableRow.holds_of_bytes
      [0xFF#8, 0xFF#8, 0xFF#8, 0xFF#8, 0x00#8, 0x00#8, 0x00#8, 0x00#8]
      [0x1D#8, 0x76#8, 0x30#8, 0x00#8, 0x00#8, 0x00#8, 0x00#8, 0x00#8] (h := by simp [rasterHeader, le16]))
  obtain ⟨hfst, hsnd⟩ := rasterHeader_fields hbpl hdh rfl
  have htake (tail : List Byte) : (rasterHeader bpl dh ++ tail).take 8 = rasterHeader bpl dh := List.take_left' rfl
  have hdrop : (rasterHeader bpl dh ++ (body ++ (rasterTrailer ++ rest))).drop (8 + bpl * dh) =
      rasterTrailer ++ rest := by
    rw [← List.append_assoc]
    exact List.drop_left' (by simp [hbody])
  have h := wireLength_raster (bpl := bpl) (dh := dh) (List.getElem_mem _)
    (TableRow.opens_append hword (body ++ (rasterTrailer ++ rest))) rfl
    (by rw [htake, hfst]) (by rw [htake, hsnd]) (by rw [hdrop]; rfl)
  simp only [List.append_assoc]
  refine h.trans (congrArg Except.ok ?_)
  simp [rasterTrailer, hbody, Nat.add_assoc]

/-- An image that passes its checks has a size its header can hold (R205). -/
theorem fields_of_imageFault {sw sh : Nat} {scale : Half} (h : imageFault sw sh scale = none) :
    bytesPerLine (scaledSize sw scale) ≤ Config.fieldMax ∧ scaledSize sh scale ≤ Config.fieldMax := by
  unfold imageFault at h
  split at h
  next => cases h
  next =>
    split at h
    next => cases h
    next =>
      split at h
      next => cases h
      next hfields => omega

theorem sentBytes_printBarcode (kind : Byte) (len : Nat) (s : State) :
    sentBytes (microsOf (.printBarcode kind len) s) = [0x1D#8, 0x6B#8, kind] ++ readBarcode s.bcd len ++ [0x00#8] :=
  List.append_nil _

theorem sentBytes_printImage {sw sh : Nat} {scale : Half} (h : imageFault sw sh scale = none) (dark : Half)
    (s : State) :
    sentBytes (microsOf (.printImage sw sh scale dark) s) =
      rasterHeader (bytesPerLine (scaledSize sw scale)) (scaledSize sh scale) ++
        rasterBody s.img sw sh (scaledSize sw scale) (scaledSize sh scale) ++ rasterTrailer := by
  simp [microsOf, h, rasterMicros, sentBytes]

theorem selfDelimiting_of_isDirectiveBytes {d : List Byte} (h : IsDirectiveBytes d) : SelfDelimiting d := by
  obtain ⟨i, s, hs, rfl⟩ := h
  cases i with
  | openSession _ | closeSession | initSequence => exact hs.elim
  | printBarcode kind len =>
    rw [sentBytes_printBarcode]
    refine selfDelimiting_barcode kind fun hmem => ?_
    obtain ⟨j, hj, hzero⟩ := List.mem_map.mp hmem
    exact hs j (List.mem_range.mp hj) hzero
  | printImage sw sh scale dark =>
    obtain ⟨hbpl, hdh⟩ := fields_of_imageFault hs
    rw [sentBytes_printImage hs]
    exact selfDelimiting_raster hbpl hdh (length_rasterBody ..)
  | _ => exact (fixedWord_sentBytes rfl s).selfDelimiting

theorem SelfDelimiting.ne_nil {d : List Byte} (h : SelfDelimiting d) : d ≠ [] := by
  rintro rfl
  cases h []

theorem cutStream_append {d : List Byte} (h : SelfDelimiting d) {fuel : Nat} {rest : List Byte} {ds : List (List Byte)}
    (hrest : cutStream fuel rest = .ok ds) : cutStream (fuel + 1) (d ++ rest) = .ok (d :: ds) := by
  obtain ⟨b, bs, rfl⟩ := List.exists_cons_of_ne_nil h.ne_nil
  have hlen := h rest
  rw [List.cons_append] at hlen ⊢
  simp only [cutStream, hlen]
  simp only [← List.cons_append, List.drop_left, List.take_left, hrest]

/-! ### The bits of the packed density byte (R93) -/

theorem packDensity_eq (density breakTime : Byte) : packDensity density breakTime = breakTime <<< 5 ||| density := by
  apply BitVec.eq_of_toNat_eq
  rw [packDensity, BitVec.toNat_ofNat, BitVec.toNat_or, BitVec.toNat_shiftLeft, Nat.or_mod_two_pow,
    Nat.mod_eq_of_lt density.isLt]

/-- Bits 7:5. -/
theorem packDensity_high (density breakTime : Byte) :
    (packDensity density breakTime).extractLsb' 5 3 = breakTime.extractLsb' 0 3 ||| density.extractLsb' 5 3 := by
  rw [packDensity_eq, BitVec.extractLsb'_or]
  congr 1
  ext i hi
  have hlt : breakTime.getLsbD i = true → 5 + i < 8 := fun _ => by omega
  simpa using hlt

/-- Bits 4:0. -/
theorem packDensity_low (density breakTime : Byte) :
    (packDensity density breakTime).extractLsb' 0 5 = density.extractLsb' 0 5 := by
  rw [packDensity_eq]
  ext i hi
  simp [hi]

theorem setWidth_extractLsb'_eq_iff (n : Nat) (b : Byte) : (b.extractLsb' 0 n).setWidth 8 = b ↔ b.toNat < 2 ^ n := by
  rw [← BitVec.toNat_inj, BitVec.toNat_setWidth, BitVec.extractLsb'_toNat, Nat.shiftRight_zero,
    Nat.mod_eq_of_lt ((Nat.mod_le _ _).trans_lt b.isLt)]
  exact Nat.mod_eq_iff_lt (Nat.two_pow_pos n).ne'

end Sys2Proof

namespace Sys2Proof.Proofs

/-- Settles O5: one round trip for each constructor. -/
theorem decodeInvertsEncode : Obligations.DecodeInvertsEncode := by
  intro i h
  cases i with
  | reset => exact RoundTrip.reset h
  | setStatus on => exact RoundTrip.setStatus on h
  | setControlParameter d t iv => exact RoundTrip.setControlParameter d t iv h
  | setSleepTime sec => exact RoundTrip.setSleepTime sec h
  | setDoubleWidthOn => exact RoundTrip.setDoubleWidthOn h
  | setDoubleWidthOff => exact RoundTrip.setDoubleWidthOff h
  | setPrintDensity density breakTime => exact RoundTrip.setPrintDensity density breakTime h
  | setCharacterSet set => exact RoundTrip.setCharacterSet set h
  | setCodeTable table => exact RoundTrip.setCodeTable table h
  | feed => exact RoundTrip.feed h
  | feedN n => exact RoundTrip.feedN n h
  | setLineSpacing n => exact RoundTrip.setLineSpacing n h
  | setAlign mode => exact RoundTrip.setAlign mode h
  | setLeftBlank n => exact RoundTrip.setLeftBlank n h
  | setBold on => exact RoundTrip.setBold on h
  | setReverse on => exact RoundTrip.setReverse on h
  | setUpDown on => exact RoundTrip.setUpDown on h
  | setUnderline on => exact RoundTrip.setUnderline on h
  | setKeyPanel on => exact RoundTrip.setKeyPanel on h
  | setBarcodeReadablePosition n => exact RoundTrip.setBarcodeReadablePosition n h
  | setBarcodeHeight n => exact RoundTrip.setBarcodeHeight n h
  | setBarcodeWidth w => exact RoundTrip.setBarcodeWidth w h
  | printBarcode kind len => exact RoundTrip.printBarcode kind len h
  | printImage sw sh scale dark => exact RoundTrip.printImage sw sh scale dark h
  | openSession ident => exact RoundTrip.openSession ident h
  | closeSession => exact RoundTrip.closeSession h
  | initSequence => exact RoundTrip.initSequence h

/-- Settles O55, by induction on the directives: the cutter finds the end of each one it begins with. -/
theorem wireStreamCutsBackIntoDirectives : Obligations.WireStreamCutsBackIntoDirectives := by
  intro ds h
  induction ds with
  | nil => rfl
  | cons d ds ih =>
    obtain ⟨hd, hds⟩ := List.forall_mem_cons.mp h
    exact cutStream_append (selfDelimiting_of_isDirectiveBytes hd) (ih hds)

/-- Settles O53: the sent bytes are a word of one row of fixed length, and of no other row. -/
theorem sentBytesReadBackThroughTheTable : Obligations.SentBytesReadBackThroughTheTable := by
  intro i s h
  obtain ⟨row, hrow, -, hreads⟩ := fixedWord_sentBytes h s
  exact hreads.decodes (mem_tableRows hrow)

/-- Settles O54: two rows that open one byte list would not be apart. -/
theorem wireGrammarHasOneRowForEachStart : Obligations.WireGrammarHasOneRowForEachStart := by
  intro bs
  exact length_filter_opens_le_one (List.pairwise_append.mp tableRows_apart).1 bs

/-- Settles O17: the bits of the shifted break time and of the density, taken apart. -/
theorem packedDensityByteByItsBits : Obligations.PackedDensityByteByItsBits := by
  intro density breakTime
  refine ⟨?_, packDensity_high density breakTime, packDensity_low density breakTime, ?_⟩
  · rw [packDensity, BitVec.toNat_ofNat, Nat.shiftLeft_eq]
  rw [packDensity_high, packDensity_low, setWidth_extractLsb'_eq_iff]
  refine (and_congr_right fun hd => ?_).trans (and_congr Nat.lt_succ_iff Nat.lt_succ_iff)
  have hzero : density.extractLsb' 5 3 = 0#3 := by
    apply BitVec.eq_of_toNat_eq
    rw [BitVec.extractLsb'_toNat, Nat.shiftRight_eq_div_pow, Nat.div_eq_of_lt hd]
    rfl
  rw [hzero, BitVec.or_zero]
  exact setWidth_extractLsb'_eq_iff 3 breakTime

/-- Settles O52: closed words, looked up in the table and decoded. -/
theorem tableWordsStandForTheirRequests : Obligations.TableWordsStandForTheirRequests := by
  unfold Obligations.TableWordsStandForTheirRequests
  decide

end Sys2Proof.Proofs
end

section
/-! PROOFS of the family 40_control_directives. A directive under the gate of R119, and how its last item ends it. -/

open Sys2Proof Sys2Proof.Machine Sys2Proof.Statements

namespace Sys2Proof.Machine

/-! ### The tags with a flag (R91) -/

theorem flagOn_eq_decide (a0 : Byte) : flagOn a0 = decide (a0 ≠ 0#8) := by
  rw [Bool.eq_iff_iff]
  simp [flagOn]

/-! ### The gate of a directive (R119, R252) -/

/-- A directive is turned away while Closed. -/
theorem exec_of_closed {i : Instr} {s : State} (h : isDirective i = true) (hs : s.sess = .closed) :
    exec i s = .next (ended .usageError s) := by
  have hr : refusal i s.sess s.tWritable = some .usageError := by
    rw [hs]
    cases i with
    | printImage _ _ _ _ | openSession _ | closeSession | initSequence => cases h
    | _ => rfl
  rw [exec_eq_course s (by rintro rfl; cases h), course_of_refused hr]
  rfl

/-- A directive while Open: its fields first, then its items (R28). -/
theorem exec_directive_of_opened {i : Instr} {s : State} {d : Directive} (h : isDirective i = true)
    (hm : microsOf i s = d.micros) (hs : s.sess = .opened) :
    exec i s = .next (runMicros (place .item 0 d.acts) (s.configure d.writes)) := by
  rw [exec_of_opened (.inl h) hs, hm]
  rfl

/-- A directive whose first write fails ends there with its fields kept (R258). -/
theorem exec_directive_first_write_fails {i : Instr} {s : State} (writes : Cfg → Cfg) {bytes : List Byte}
    {as : List Act} {rest : List Reply} (h : isDirective i = true)
    (hm : microsOf i s = Directive.micros ⟨writes, .segment bytes :: as⟩) (hs : s.sess = .opened)
    (hw : s.writeReplies = .fail :: rest) :
    exec i s = .next { s with cfg := writes s.cfg, writeReplies := rest, res := .transportWriteError, seq := .idle,
                              history := s.history ++ [.write bytes .fail, .result .transportWriteError] } := by
  rw [exec_directive_of_opened h hm hs]
  exact congrArg _ (runMicros_segment_fail (s := s.configure writes) hw)

/-! ### The last item of a request -/

/-- The last write of a request, answered ok, completes it. -/
theorem runMicros_last_segment_ok {s : State} {p : SeqPos} {bytes : List Byte} {rest : List Reply}
    (h : s.writeReplies = .ok :: rest) :
    runMicros [.act p (.segment bytes)] s =
      { s with seq := .idle, res := .ok, writeReplies := rest,
               history := s.history ++ [.write bytes .ok, .result .ok] } := by
  rw [runMicros_segment_ok h]
  simp [runMicros, State.finish]

/-- The last wait of a request, ended, completes it. -/
theorem runMicros_last_wait {s : State} {p : SeqPos} {n : Nat} (h : s.waitEnds = n + 1) :
    runMicros [.act p .wait] s =
      { s with seq := .idle, res := .ok, waitEnds := n, history := s.history ++ [.wait, .result .ok] } := by
  rw [runMicros_wait h]
  simp [runMicros, State.finish]

/-! ### SetSleepTime at its trailer -/

/-- SetSleepTime past its first write and its wait (R123). -/
theorem exec_setSleepTime_second (sec : Byte) {s : State} {ws : List Reply} {n : Nat} (hs : s.sess = .opened)
    (hw : s.writeReplies = .ok :: ws) (he : s.waitEnds = n + 1) :
    exec (.setSleepTime sec) s = .next (runMicros [.act (.item 2) (.segment [0xFF#8])]
      { s with cfg := { s.cfg with sleepSeconds := sec }, writeReplies := ws, waitEnds := n, seq := .item 1,
               history := s.history ++ [.write [0x1B#8, 0x38#8, sec] .ok, .wait] }) := by
  rw [exec_setSleepTime_first sec hs hw]
  refine congrArg _ (Eq.trans (runMicros_wait (n := n) ?_) ?_)
  · exact he
  · simp

/-! ### A directive of one segment -/

/-- An instruction whose moves are its fields and one segment is a one-segment directive. -/
theorem oneSegment_of_microsOf {i : Instr} {writes : Cfg → Cfg} {seg : State → List Byte} (h : isDirective i = true)
    (hm : ∀ s, microsOf i s = Directive.micros ⟨writes, [.segment (seg s)]⟩) : OneSegment i writes seg := by
  refine fun s => ⟨exec_of_closed h, fun ws hs hw => ?_, fun ws => exec_directive_first_write_fails writes h (hm s)⟩
  rw [exec_directive_of_opened h (hm s) hs]
  exact congrArg _ (runMicros_last_segment_ok (s := s.configure writes) hw)

end Sys2Proof.Machine

namespace Sys2Proof.Proofs

/-- Settles O14: one segment each, with the flag's byte. -/
theorem statusAndKeyPanelSendTheirFlag : Obligations.StatusAndKeyPanelSendTheirFlag := by
  refine ⟨⟨fun r h => ?_, fun on => oneSegment_of_microsOf rfl fun _ => rfl⟩,
    ⟨fun r h => ?_, fun on => oneSegment_of_microsOf rfl fun _ => rfl⟩⟩
  · simp [decode, h, flagOn_eq_decide]
  · simp [decode, h, flagOn_eq_decide]

/-- Settles O15: the three fields and one segment. -/
theorem controlParameterSetsTheHeating : Obligations.ControlParameterSetsTheHeating :=
  ⟨fun r h => by simp [decode, h], fun d t i => oneSegment_of_microsOf rfl fun _ => rfl⟩

/-- Settles O16: the raw fields and one segment, whose packed byte keeps the low eight bits (R93). -/
theorem printDensitySendsThePackedByte : Obligations.PrintDensitySendsThePackedByte := by
  refine ⟨fun r h => by simp [decode, h], fun density breakTime => oneSegment_of_microsOf rfl fun _ => ?_⟩
  have hpack : packDensity density breakTime =
      BitVec.ofNat 8 (((breakTime.toNat <<< 5) ||| density.toNat) % 256) :=
    BitVec.eq_of_toNat_eq (Nat.mod_mod _ _).symm
  rw [← hpack]
  rfl

/-- Settles O18: a segment, then a wait that only an answered write reaches (R258). -/
theorem resetSendsTwoBytesAndWaits : Obligations.ResetSendsTwoBytesAndWaits := by
  refine ⟨fun r h => by simp [decode, h], fun s => ⟨exec_of_closed rfl, fun ws n hs hw he => ?_,
    fun ws => exec_directive_first_write_fails id rfl rfl⟩⟩
  rw [exec_directive_of_opened (i := .reset) rfl rfl hs]
  refine congrArg _ ((runMicros_segment_ok (s := s.configure id) hw).trans ?_)
  refine Eq.trans (runMicros_last_wait (n := n) ?_) ?_
  · exact he
  · simp

/-- Settles O19: past the first write and the wait, the trailer's write completes the request or ends it (R258). -/
theorem sleepTimeSendsItsTrailerAfterAWait : Obligations.SleepTimeSendsItsTrailerAfterAWait := by
  refine ⟨fun r h => by simp [decode, h], fun sec s => ⟨exec_of_closed rfl, fun ws n hs hw he => ?_,
    fun ws => exec_directive_first_write_fails (fieldsFirst (.setSleepTime sec)) rfl rfl, fun ws n hs hw he => ?_⟩⟩
  · rw [exec_setSleepTime_second sec hs hw he, runMicros_last_segment_ok rfl]
    simp
  · rw [exec_setSleepTime_second sec hs hw he, runMicros_segment_fail rfl]
    simp

end Sys2Proof.Proofs
end

section
/-! PROOFS of the family 41_format_directives. A tag, its one operand and its one segment, put together once. -/

open Sys2Proof Sys2Proof.Machine Sys2Proof.Statements

namespace Sys2Proof.Machine

/-! ### The dispatch of one tag -/

/-- The same request with another tag. -/
def retag (op : Byte) (r : Request) : Request := { r with latches := { r.latches with op := op } }

theorem retag_self {op : Byte} {r : Request} (h : r.latches.op = op) : retag op r = r := by
  subst h
  rfl

/-- A tag's dispatch, read off its own row of `decode`. -/
theorem decode_of_retag {op : Byte} {r : Request} {i : Instr} (hrow : decode (retag op r) = .ok i)
    (h : r.latches.op = op) : decode r = .ok i := by
  rwa [retag_self h] at hrow

/-! ### One operand and one segment -/

theorem byteDirective_of_microsOf {op : Byte} {i : Byte → Instr} {writes : Byte → Cfg → Cfg}
    {seg : Byte → List Byte} (hrow : ∀ r, decode (retag op r) = .ok (i r.latches.a0))
    (hdir : ∀ n, isDirective (i n) = true)
    (hm : ∀ n s, microsOf (i n) s = Directive.micros ⟨writes n, [.segment (seg n)]⟩) :
    ByteDirective op i writes seg :=
  ⟨fun r => decode_of_retag (hrow r), fun n => oneSegment_of_microsOf (hdir n) (hm n)⟩

theorem flagDirective_of_microsOf {op : Byte} {i : Bool → Instr} {writes : Bool → Cfg → Cfg}
    {seg : Byte → List Byte} (hrow : ∀ r, decode (retag op r) = .ok (i (flagOn r.latches.a0)))
    (hdir : ∀ on, isDirective (i on) = true)
    (hm : ∀ on s, microsOf (i on) s = Directive.micros ⟨writes on, [.segment (seg (b2u on))]⟩) :
    FlagDirective op i writes seg :=
  ⟨fun r => decode_of_retag (flagOn_eq_decide r.latches.a0 ▸ hrow r),
    fun on => oneSegment_of_microsOf (hdir on) (hm on)⟩

/-! ### The clamp of the left blank (R96) -/

theorem clampLeftBlank_eq (n : Byte) : clampLeftBlank n = BitVec.ofNat 8 (min n.toNat 47) := rfl

theorem clampLeftBlank_toNat (n : Byte) : (clampLeftBlank n).toNat = min n.toNat 47 := by
  rw [clampLeftBlank_eq, BitVec.toNat_ofNat]
  exact Nat.mod_eq_of_lt (by omega)

theorem clampLeftBlank_of_ge {n : Byte} (h : 47 ≤ n.toNat) : clampLeftBlank n = 47#8 := by
  rw [clampLeftBlank_eq, Nat.min_eq_right h]

theorem clampLeftBlank_of_lt {n : Byte} (h : n.toNat < 47) : clampLeftBlank n = n := by
  rw [clampLeftBlank_eq, Nat.min_eq_left h.le, BitVec.ofNat_toNat, BitVec.setWidth_eq]

end Sys2Proof.Machine

namespace Sys2Proof.Proofs

/-- Settles O21: the flag chooses between two forms, each of one fixed segment (R92). -/
theorem doubleWidthSelectsItsOpcode : Obligations.DoubleWidthSelectsItsOpcode := by
  refine ⟨fun r => decode_of_retag ?_, oneSegment_of_microsOf rfl fun _ => rfl,
    oneSegment_of_microsOf rfl fun _ => rfl⟩
  have hrow : decode (retag 0x04#8 r) =
      .ok (if flagOn r.latches.a0 then .setDoubleWidthOn else .setDoubleWidthOff) := rfl
  simpa only [flagOn_eq_decide, decide_eq_true_eq] using hrow

/-- Settles O22: each code is its directive's one operand, stored and sent as it is. -/
theorem rawCodesAreStoredAndSent : Obligations.RawCodesAreStoredAndSent :=
  ⟨byteDirective_of_microsOf (fun _ => rfl) (fun _ => rfl) fun _ _ => rfl,
    byteDirective_of_microsOf (fun _ => rfl) (fun _ => rfl) fun _ _ => rfl,
    byteDirective_of_microsOf (fun _ => rfl) (fun _ => rfl) fun _ _ => rfl,
    byteDirective_of_microsOf (fun _ => rfl) (fun _ => rfl) fun _ _ => rfl⟩

/-- Settles O23: three directives of one segment and no field, two of them with an operand. -/
theorem feedAndLineSpacing : Obligations.FeedAndLineSpacing :=
  ⟨fun _ => decode_of_retag rfl, oneSegment_of_microsOf rfl fun _ => rfl,
    byteDirective_of_microsOf (fun _ => rfl) (fun _ => rfl) fun _ _ => rfl,
    byteDirective_of_microsOf (fun _ => rfl) (fun _ => rfl) fun _ _ => rfl⟩

/-- Settles O24: the clamp in its two cases; its value is what the directive stores and sends. -/
theorem leftBlankIsClampedToFortySeven : Obligations.LeftBlankIsClampedToFortySeven := by
  refine ⟨fun n => ⟨clampLeftBlank_toNat n, clampLeftBlank_of_ge, clampLeftBlank_of_lt⟩, ?_⟩
  simp only [← clampLeftBlank_eq]
  exact byteDirective_of_microsOf (fun _ => rfl) (fun _ => rfl) fun _ _ => rfl

/-- Settles O25: each flag is stored as a truth value and sent as its byte (R91); SetBold sends it twice. -/
theorem emphasisFlagsAreStoredAndSent : Obligations.EmphasisFlagsAreStoredAndSent :=
  ⟨flagDirective_of_microsOf (fun _ => rfl) (fun _ => rfl) fun _ _ => rfl,
    flagDirective_of_microsOf (fun _ => rfl) (fun _ => rfl) fun _ _ => rfl,
    flagDirective_of_microsOf (fun _ => rfl) (fun _ => rfl) fun _ _ => rfl,
    flagDirective_of_microsOf (fun _ => rfl) (fun _ => rfl) fun _ _ => rfl⟩

end Sys2Proof.Proofs
end

section
/-! PROOFS of the family 42_barcode_directives. The two clamps, and the one segment of a barcode. -/

open Sys2Proof Sys2Proof.Machine Sys2Proof.Statements

namespace Sys2Proof.Machine

/-! ### The clamp of the barcode height (R97) -/

theorem clampBarcodeHeight_eq (h : Byte) : clampBarcodeHeight h = BitVec.ofNat 8 (max h.toNat 1) := rfl

theorem clampBarcodeHeight_toNat (h : Byte) : (clampBarcodeHeight h).toNat = max h.toNat 1 := by
  rw [clampBarcodeHeight_eq, BitVec.toNat_ofNat]
  exact Nat.mod_eq_of_lt (max_lt h.isLt (by decide))

theorem clampBarcodeHeight_of_le {h : Byte} (hle : h.toNat ≤ 1) : clampBarcodeHeight h = 1#8 := by
  rw [clampBarcodeHeight_eq, Nat.max_eq_right hle]

theorem clampBarcodeHeight_of_gt {h : Byte} (hgt : 1 < h.toNat) : clampBarcodeHeight h = h := by
  rw [clampBarcodeHeight_eq, Nat.max_eq_left hgt.le, BitVec.ofNat_toNat, BitVec.setWidth_eq]

/-! ### The clamp of the barcode width (R98) -/

theorem clampBarcodeWidth_eq (w : Byte) : clampBarcodeWidth w = if w.toNat ≤ 2 then 2#8 else 3#8 := rfl

theorem clampBarcodeWidth_of_le {w : Byte} (h : w.toNat ≤ 2) : clampBarcodeWidth w = 2#8 := by
  rw [clampBarcodeWidth_eq, if_pos h]

theorem clampBarcodeWidth_of_ge {w : Byte} (h : 3 ≤ w.toNat) : clampBarcodeWidth w = 3#8 := by
  rw [clampBarcodeWidth_eq, if_neg (Nat.not_le_of_gt h)]

end Sys2Proof.Machine

namespace Sys2Proof.Proofs

/-- Settles O26: each clamp in its two cases; its value is what the directive stores and sends. -/
theorem barcodeSizesAreClamped : Obligations.BarcodeSizesAreClamped := by
  refine ⟨fun h => ⟨clampBarcodeHeight_toNat h, clampBarcodeHeight_of_le, clampBarcodeHeight_of_gt⟩,
    fun w => ⟨clampBarcodeWidth_of_le, clampBarcodeWidth_of_ge⟩, ?_⟩
  simp only [← clampBarcodeHeight_eq, ← clampBarcodeWidth_eq]
  exact ⟨byteDirective_of_microsOf (fun _ => rfl) (fun _ => rfl) fun _ _ => rfl,
    byteDirective_of_microsOf (fun _ => rfl) (fun _ => rfl) fun _ _ => rfl⟩

/-- Settles O27: the one segment holds the stored bytes between three bytes before them and one after. -/
theorem printBarcodeSendsItsDataVerbatim : Obligations.PrintBarcodeSendsItsDataVerbatim := by
  refine ⟨fun _ => decode_of_retag rfl, fun kind len => oneSegment_of_microsOf rfl fun _ => rfl, fun kind len s => ?_⟩
  rw [sentBytes_printBarcode, List.length_append, List.length_append, length_readBarcode]
  simp only [List.length_cons, List.length_nil]
  omega

end Sys2Proof.Proofs
end

section
/-! PROOFS of the family 43_init_sequence. Init turned away, and Init at its last write. -/

open Sys2Proof Sys2Proof.Machine Sys2Proof.Statements

namespace Sys2Proof.Machine

/-- Init is turned away while Closed, before its first step (R190). -/
theorem exec_init_of_closed {s : State} (hs : s.sess = .closed) :
    exec .initSequence s = .next (ended .usageError s) := by
  have hr : refusal .initSequence s.sess s.tWritable = some .usageError := by rw [hs]; rfl
  rw [exec_eq_course (i := .initSequence) s nofun, course_of_refused hr]
  rfl

/-- Write number 8 is the last move of Init (R192). -/
theorem initMovesFrom_last : initMovesFrom 8 = [.act (.init 7 0) (.segment (initSegment 8))] := rfl

/-- Init answered to its end: its last write completes it, with every event and field of its steps (R191, R192). -/
theorem exec_init_completes {s : State} {ws : List Reply} {n : Nat} (hs : s.sess = .opened)
    (hw : s.writeReplies = List.replicate 9 .ok ++ ws) (he : s.waitEnds = n + 2) :
    exec .initSequence s =
      .next { s with cfg := initFieldsAt 8 s.cfg, writeReplies := ws, waitEnds := n, res := .ok, seq := .idle,
                     history := s.history ++ (initEventsBefore 9 ++ [.result .ok]) } := by
  have hlast : s.writeReplies = List.replicate 8 .ok ++ .ok :: ws := hw
  rw [exec_init_reaches hs (by decide) hlast he, initMovesFrom_last, runMicros_last_segment_ok rfl,
    initEventsBefore_succ 8]
  simp [initStateAt, initWaitAfter]

/-- `trunc_8` of the packed density byte, as the rules write it (R93, R192). -/
theorem packDensity_eq_trunc (density breakTime : Byte) :
    packDensity density breakTime = BitVec.ofNat 8 (((breakTime.toNat <<< 5) ||| density.toNat) % 256) :=
  BitVec.eq_of_toNat_eq (Nat.mod_mod _ _).symm

end Sys2Proof.Machine

namespace Sys2Proof.Proofs

/-- Settles O28: the nine segments and two waits are Init's events before a write number 9, which it does not have. -/
theorem initSendsItsNineSegments : Obligations.InitSendsItsNineSegments := by
  refine ⟨fun r h => by simp [decode, h], fun s => ⟨exec_init_of_closed, fun ws n hs hw he => ?_⟩⟩
  rw [exec_init_completes hs hw he, ← packDensity_eq_trunc]
  rfl

end Sys2Proof.Proofs
end

section
/-! PROOFS of the family 44_print_image. The scaler's arithmetic, the bits of the packed body, and the three segments. -/

open Sys2Proof Sys2Proof.Machine Sys2Proof.Statements

namespace Sys2Proof.Machine

/-! ### Scaled size, line length and source coordinate (R203, R204, R206) -/

/-- The largest factor is `65535 / 256`. -/
theorem scaledSize_le {n : Nat} (scale : Half) (h : n < 65536) : scaledSize n scale ≤ 16776704 := by
  have hprod : n * scale.toNat ≤ 65535 * 65535 :=
    Nat.mul_le_mul (Nat.le_of_lt_succ h) (Nat.le_of_lt_succ scale.isLt)
  unfold scaledSize
  omega

theorem scaledSize_floor (n : Nat) (scale : Half) :
    scaledSize n scale * 256 ≤ n * scale.toNat ∧ n * scale.toNat < (scaledSize n scale + 1) * 256 := by
  unfold scaledSize
  omega

theorem bytesPerLine_eq (dw : Nat) : bytesPerLine dw = (dw + 7) / 8 := Nat.shiftRight_eq_div_pow _ 3

theorem sourceCoord_self {n : Nat} (h : 0 < n) (x : Nat) : sourceCoord n n x = x := Nat.mul_div_cancel x h

theorem sourceCoord_mul {n : Nat} (h : 0 < n) (f x : Nat) : sourceCoord n (n * f) x = x / f := by
  rw [sourceCoord, Nat.mul_comm x n, Nat.mul_div_mul_left x f h]

/-! ### The bits of the body (R207, R210, R211) -/

/-- The eight weighted pixels of `packByte` are the binary digits of their sum, the leftmost the most significant. -/
theorem sum_shiftLeft_eq_ofBits (bit : Nat → Bool) :
    ((List.range 8).map fun k => (if bit k then 1 else 0) <<< (7 - k)).sum =
      Nat.ofBits fun i : Fin 8 => bit (7 - i) := by
  have hbit (b : Bool) : (if b then 1 else 0) = b.toNat := by cases b <;> rfl
  simp only [hbit, Nat.shiftLeft_eq]
  change _ = 2 * (2 * (2 * (2 * (2 * (2 * (2 * (2 * 0 + (bit 0).toNat) + (bit 1).toNat) + (bit 2).toNat) +
    (bit 3).toNat) + (bit 4).toNat) + (bit 5).toNat) + (bit 6).toNat) + (bit 7).toNat
  simp only [List.range_succ, List.range_zero, List.nil_append, List.cons_append, List.map_cons, List.map_nil,
    List.sum_cons, List.sum_nil]
  omega

/-- R210: bit 7 is the leftmost of the eight pixels. -/
theorem packByte_getLsbD (img : Memory 24) (sw sh dw dh y c : Nat) {k : Nat} (hk : k < 8) :
    (packByte img sw sh dw dh y c).getLsbD (7 - k) = rasterBit img sw sh dw dh (8 * c + k) y := by
  have hbit : 7 - k < 8 := by omega
  have hpixel : 7 - (7 - k) = k := by omega
  rw [packByte, sum_shiftLeft_eq_ofBits fun j => rasterBit img sw sh dw dh (8 * c + j) y, BitVec.getLsbD_ofNat,
    Nat.testBit_ofBits_lt _ _ hbit]
  simp [hbit, hpixel]

/-- Lists of one length end to end: element `c` of list `i`. -/
theorem getElem?_flatMap_of_length {α β : Type} {f : α → List β} {w c : Nat} (hf : ∀ a, (f a).length = w)
    (hc : c < w) (l : List α) (i : Nat) : (l.flatMap f)[i * w + c]? = l[i]?.bind fun a => (f a)[c]? := by
  induction l generalizing i with
  | nil => rfl
  | cons a l ih =>
    rw [List.flatMap_cons]
    cases i with
    | zero => rw [Nat.zero_mul, Nat.zero_add, List.getElem?_append_left (hf a ▸ hc)]; rfl
    | succ i =>
      have hskip : (i + 1) * w + c - w = i * w + c := by rw [Nat.succ_mul]; omega
      rw [List.getElem?_append_right (by rw [hf, Nat.succ_mul]; omega), hf, hskip, ih]
      rfl

theorem length_rasterRow (img : Memory 24) (sw sh dw dh y : Nat) :
    (rasterRow img sw sh dw dh y).length = bytesPerLine dw := by
  simp [rasterRow]

/-- R211: row `y` starts at byte `y * bpl`. -/
theorem rasterBody_getElem? (img : Memory 24) (sw sh dw : Nat) {dh y c : Nat} (hy : y < dh)
    (hc : c < bytesPerLine dw) :
    (rasterBody img sw sh dw dh)[y * bytesPerLine dw + c]? = some (packByte img sw sh dw dh y c) := by
  rw [rasterBody, getElem?_flatMap_of_length (length_rasterRow img sw sh dw dh) hc, List.getElem?_range hy]
  simp [rasterRow, hc]

theorem rasterBit_eq (img : Memory 24) (sw sh dw dh x y : Nat) :
    rasterBit img sw sh dw dh x y =
      (decide (x < dw) && decide (readPixel img (x * sw / dw) (y * sh / dh) = 0x000000#24)) := rfl

/-! ### The three segments (R209, R212) -/

/-- The header with its two fields cut into low and high byte. -/
theorem rasterHeader_eq (bpl dh : Nat) :
    rasterHeader bpl dh =
      [0x1D#8, 0x76#8, 0x30#8, 0x00#8, BitVec.ofNat 8 (bpl % 256), BitVec.ofNat 8 (bpl / 256),
       BitVec.ofNat 8 (dh % 256), BitVec.ofNat 8 (dh / 256)] := by
  have hlow (v : Nat) : BitVec.ofNat 8 v = BitVec.ofNat 8 (v % 256) := BitVec.eq_of_toNat_eq (Nat.mod_mod v _).symm
  have hle16 (v : Nat) : le16 v = [BitVec.ofNat 8 (v % 256), BitVec.ofNat 8 (v / 256)] := by
    rw [le16, ← hlow, Nat.shiftRight_eq_div_pow]
  rw [rasterHeader, hle16, hle16]
  rfl

/-- A scaled image that has pixels and fits the header's fields passes the checks (R202, R203, R205). -/
theorem imageFault_eq_none {sw sh : Nat} {scale : Half} (hdw : 0 < scaledSize sw scale)
    (hdh : 0 < scaledSize sh scale) (hbpl : bytesPerLine (scaledSize sw scale) ≤ Config.fieldMax)
    (hfield : scaledSize sh scale ≤ Config.fieldMax) : imageFault sw sh scale = none := by
  have hpos {n : Nat} (h : 0 < scaledSize n scale) : n ≠ 0 := by
    rintro rfl
    simp [scaledSize] at h
  rw [imageFault, if_neg (not_or.mpr ⟨hpos hdw, hpos hdh⟩), if_neg (not_or.mpr ⟨hdw.ne', hdh.ne'⟩),
    if_neg (not_or.mpr ⟨Nat.not_lt.mpr hbpl, Nat.not_lt.mpr hfield⟩)]

/-- PrintImage past its checks (R200). -/
theorem exec_printImage_of_ready {sw sh : Nat} {scale : Half} (dark : Half) {s : State} (hs : s.sess = .opened)
    (hw : s.tWritable = true) (hf : imageFault sw sh scale = none) :
    exec (.printImage sw sh scale dark) s = .next (runMicros (rasterMicros s.img sw sh scale) s) := by
  have hr : refusal (.printImage sw sh scale dark) s.sess s.tWritable = none := by rw [hs, hw]; exact hf
  rw [exec_eq_course (i := .printImage sw sh scale dark) s nofun, course_of_admitted hr]
  simp only [microsOf, hf]

end Sys2Proof.Machine

namespace Sys2Proof.Proofs

/-- Settles O33: the byte at that index is `packByte` of row `y`, column `x / 8`, and the bit is its pixel `x % 8`. -/
theorem rasterBodyBitIsTheSourcePixel : Obligations.RasterBodyBitIsTheSourcePixel := by
  intro img sw sh dw dh x y hy hx
  rw [← bytesPerLine_eq] at hx ⊢
  rw [rasterBody_getElem? img sw sh dw hy (Nat.div_lt_of_lt_mul hx), Option.map_some,
    packByte_getLsbD _ _ _ _ _ _ _ (Nat.mod_lt x (by decide)), Nat.div_add_mod, rasterBit_eq]

/-- Settles O34: an exact floor, its special factors, and a division rounded up. -/
theorem scaledSizesAndLineLength : Obligations.ScaledSizesAndLineLength := by
  refine ⟨fun n scale h => ⟨scaledSize_le scale h, scaledSize_floor n scale⟩, fun n => ⟨?_, ?_, ?_⟩, fun dw => ?_⟩
  · exact Nat.mul_div_cancel n (by decide)
  · change n * 512 / 256 = 2 * n
    omega
  · exact Nat.zero_div 256
  · rw [bytesPerLine_eq]
    omega

/-- Settles O35: the coordinate's quotient, cancelled at equal sizes and at integer factors. -/
theorem everyPixelReadIsInsideTheImage : Obligations.EveryPixelReadIsInsideTheImage :=
  ⟨fun _ _ _ => sourceCoord_lt, fun _ x hx => sourceCoord_self (Nat.zero_lt_of_lt hx) x,
    fun _ f x _ hx => sourceCoord_mul (Nat.pos_of_mul_pos_right (Nat.zero_lt_of_lt hx)) f x⟩

/-- Settles O31: the three segments of `rasterMicros`, each reached only past an answered one (R258). -/
theorem printImageSendsHeaderBodyTrailer : Obligations.PrintImageSendsHeaderBodyTrailer := by
  rintro sw sh dw dh bpl scale dark s ws header body hs hw hdw hdh hbpl hdw0 hdh0 hbplMax hdhMax hheader rfl
  replace hdw : dw = scaledSize sw scale := hdw
  replace hdh : dh = scaledSize sh scale := hdh
  rw [← bytesPerLine_eq] at hbpl
  rw [← rasterHeader_eq] at hheader
  subst hdw hdh hbpl hheader
  have hf : imageFault sw sh scale = none := imageFault_eq_none hdw0 hdh0 hbplMax hdhMax
  rw [exec_printImage_of_ready dark hs hw hf, rasterMicros]
  refine ⟨length_rasterBody .., fun h => ?_, fun h => ?_, fun h => ?_, fun h => ?_⟩
  · rw [runMicros_segment_ok h, runMicros_segment_ok rfl, runMicros_last_segment_ok rfl]
    simp [rasterTrailer]
  · rw [runMicros_segment_fail h]
  · rw [runMicros_segment_ok h, runMicros_segment_fail rfl]
    simp
  · rw [runMicros_segment_ok h, runMicros_segment_ok rfl, runMicros_segment_fail rfl]
    simp [rasterTrailer]

/-- Settles O37: `execPrintImage` takes the factor and does not use it (R214). -/
theorem darknessHasNoEffect : Obligations.DarknessHasNoEffect := fun _ _ _ _ _ _ => rfl

end Sys2Proof.Proofs
end

section
/-! PROOFS of the family 45_session. Open and Close, each in both states of the session. -/

open Sys2Proof Sys2Proof.Machine Sys2Proof.Statements

namespace Sys2Proof.Machine

/-! ### Open (R240) -/

theorem exec_open_of_opened (ident : Ident) {s : State} (hs : s.sess = .opened) :
    exec (.openSession ident) s = .next (ended .usageError s) := by
  have hr : refusal (.openSession ident) s.sess s.tWritable = some .usageError := by rw [hs]; rfl
  rw [exec_eq_course (i := .openSession ident) s nofun, course_of_refused hr]
  rfl

theorem exec_open_of_closed (ident : Ident) {s : State} (hs : s.sess = .closed) :
    exec (.openSession ident) s = .next (runMicros (openMicros ident) s) := by
  have hr : refusal (.openSession ident) s.sess s.tWritable = none := by rw [hs]; rfl
  rw [exec_eq_course (i := .openSession ident) s nofun, course_of_admitted hr]
  rfl

/-! ### Close (R241) -/

theorem exec_close_of_opened {s : State} (hs : s.sess = .opened) :
    exec .closeSession s =
      .next ((State.record .tClose { s with sess := .closed, cfg := Cfg.defaults }).finish .ok) := by
  simp [exec, execCloseSession, hs]

theorem exec_close_of_closed {s : State} (hs : s.sess = .closed) : exec .closeSession s = .next (ended .ok s) := by
  simp [exec, execCloseSession, hs, State.finish, ended]

end Sys2Proof.Machine

namespace Sys2Proof.Proofs

/-- Settles O38: turned away while Open; while Closed, the answer picks the case of Open's one operation. -/
theorem openFollowsTheTransportsAnswer : Obligations.OpenFollowsTheTransportsAnswer := by
  refine ⟨fun r => decode_of_retag rfl, fun ident s => ⟨exec_open_of_opened ident, fun os hs ho => ?_,
    fun os hs ho => ?_⟩⟩ <;> rw [exec_open_of_closed ident hs]
  · obtain ⟨h, -⟩ | ⟨rest, h, hr⟩ | ⟨rest, h, -⟩ := runMicros_openMicros ident s <;> cases ho.symm.trans h
    exact congrArg _ hr
  · obtain ⟨h, -⟩ | ⟨rest, h, -⟩ | ⟨rest, h, hr⟩ := runMicros_openMicros ident s <;> cases ho.symm.trans h
    exact congrArg _ hr

/-- Settles O40: the session is released and `CFG` is `Cfg.defaults`, field by field (R31); while Closed there is only
the result. -/
theorem closeReleasesTheTransportOnce : Obligations.CloseReleasesTheTransportOnce := by
  refine ⟨fun r => decode_of_retag rfl, fun s => ⟨fun hs => ?_, exec_close_of_closed⟩⟩
  rw [exec_close_of_opened hs]
  simp [State.record, State.finish, Cfg.defaults]

end Sys2Proof.Proofs
end

section
/-! PROOFS of the family 60_exceptions. The code with which a request is turned away, the codes its moves can report, and
the waits among its events. -/

open Sys2Proof Sys2Proof.Machine Sys2Proof.Statements

namespace Sys2Proof.Machine

/-! ### Requests turned away (R252, R260) -/

/-- A request other than Close that is turned away ends with its code and no other effect. -/
theorem exec_of_refused {i : Instr} {s : State} {c : ResultCode} (hi : i ≠ .closeSession)
    (h : refusal i s.sess s.tWritable = some c) : exec i s = .next (ended c s) := by
  rw [exec_eq_course s hi, course_of_refused h]
  rfl

/-- All requests but PrintImage, Open and Close stand behind the one gate (R252). -/
theorem isDirective_or_init {i : Instr} (hp : ∀ sw sh scale dark, i ≠ .printImage sw sh scale dark)
    (ho : ∀ ident, i ≠ .openSession ident) (hc : i ≠ .closeSession) : isDirective i = true ∨ i = .initSequence := by
  cases i with
  | printImage sw sh scale dark => exact absurd rfl (hp sw sh scale dark)
  | openSession ident => exact absurd rfl (ho ident)
  | closeSession => exact absurd rfl hc
  | initSequence => exact .inr rfl
  | _ => exact .inl rfl

/-! ### The results that moves report (R240, R258) -/

/-- Moves made while Open complete or end at a failed write. -/
theorem Ending.result_cases {t : State} {sent tail : List Event} {c : ResultCode} (h : Ending t tail)
    (hsent : ∀ e ∈ sent, e.isSent = true) (hmem : .result c ∈ sent ++ tail) : c = .ok ∨ c = .transportWriteError := by
  have notSent : .result c ∉ sent := fun hm => nomatch hsent _ hm
  obtain rfl | rfl | ⟨seg, rfl, -, -⟩ := h
  · simp [notSent] at hmem
  · exact .inl (by simpa [notSent] using hmem)
  · exact .inr (by simpa [notSent] using hmem)

/-- A request whose moves run completes, ends at a failed write, or is an Open whose `TOpen` was answered fail. -/
theorem result_of_moves {i : Instr} {s : State} {es : List Event} {c : ResultCode}
    (hh : (runMicros (microsOf i s) s).history = s.history ++ es) (hc : .result c ∈ es) :
    c = .ok ∨ c = .transportWriteError ∨ c = .transportUnavailable ∧
      ∃ ident os, i = .openSession ident ∧ s.openReplies = .fail :: os ∧
        runMicros (microsOf i s) s =
          { s with openReplies := os, res := .transportUnavailable, seq := .idle,
                   history := s.history ++ [.tOpen ident .fail, .result .transportUnavailable] } := by
  by_cases ho : ∃ ident, i = .openSession ident
  · obtain ⟨ident, rfl⟩ := ho
    change (runMicros (openMicros ident) s).history = _ at hh
    obtain ⟨-, hr⟩ | ⟨os, -, hr⟩ | ⟨os, hos, hr⟩ := runMicros_openMicros ident s <;> rw [hr] at hh
    · obtain rfl : es = [] := by simpa using hh
      cases hc
    · obtain rfl := List.append_cancel_left hh
      exact .inl (by simpa using hc)
    · obtain rfl := List.append_cancel_left hh
      exact .inr (.inr ⟨by simpa using hc, ident, os, rfl, hos, hr⟩)
  · obtain ⟨sent, tail, hist, hsent, hend⟩ :=
      runMicros_events (s := s) fun p a (ha : .act p a ∈ microsOf i s) => act_whileOpen ho ha
    obtain rfl := List.append_cancel_left (hh.symm.trans hist)
    exact (hend.result_cases hsent hc).imp_right .inl

theorem usageError_notMem_of_moves {i : Instr} {s : State} {es : List Event}
    (hh : (runMicros (microsOf i s) s).history = s.history ++ es) : .result .usageError ∉ es :=
  fun hm => by obtain h | h | ⟨h, -⟩ := result_of_moves hh hm <;> cases h

theorem result_of_finish {s : State} {es : List Event} {c c' : ResultCode}
    (h : (s.finish c').history = es ++ [.result c]) : c' = c := by
  simpa using congrArg List.getLast? h

/-! ### Waits (R270) -/

/-- An answered operation adds one event, and only a wait adds the event of a wait. -/
theorem answered_event {a : Act} {s t : State} (h : Answered a s t) :
    ∃ e, t.history = s.history ++ [e] ∧ (e = .wait → a = .wait) := by
  obtain h | ⟨c, h⟩ := h
  · obtain ⟨_, _, -, -, rfl⟩ | ⟨_, rfl, -, rfl⟩ | ⟨_, _, -, -, rfl⟩ := perform_done h
    exacts [⟨_, rfl, nofun⟩, ⟨_, rfl, fun _ => rfl⟩, ⟨_, rfl, nofun⟩]
  · obtain ⟨_, _, -, -, -, rfl⟩ | ⟨_, _, -, -, -, rfl⟩ := perform_failed h <;> exact ⟨_, rfl, nofun⟩

theorem count_wait_append {es : List Event} {e : Event} (h : e ≠ .wait) : (es ++ [e]).count .wait = es.count .wait := by
  rw [List.count_append, List.count_singleton, if_neg (by simpa using h), Nat.add_zero]

/-- A run of moves that asks for no wait adds none to the history. -/
theorem runMicros_count_wait {ms : List Micro} {s : State} (hno : ∀ p, .act p .wait ∉ ms) :
    (runMicros ms s).history.count .wait = s.history.count .wait := by
  refine runMicros_preserves (P := fun t => t.history.count .wait = s.history.count .wait) (fun _ _ h => h)
    (fun c t h => by simp [h]) (fun _ _ _ h => h) (fun p a ha t u ht hau => ?_) rfl
  obtain ⟨e, he, hwait⟩ := answered_event hau
  rw [he, count_wait_append fun hw => hno p (hwait hw ▸ ha), ht]

theorem exec_count_wait {i : Instr} {s t : State} (h : exec i s = .next t) (hno : ∀ p, .act p .wait ∉ microsOf i s) :
    t.history.count .wait = s.history.count .wait := by
  obtain ⟨c, -, he⟩ | ⟨he, -, -⟩ | ⟨-, -, he⟩ | ⟨-, -, he⟩ := exec_cases i s <;> rw [he] at h <;> cases h
  · simp
  · exact runMicros_count_wait hno
  · simp
  · simp

/-- The directives besides Reset and SetSleepTime have one segment as their only item. -/
theorem microsOf_one_segment {i : Instr} (hd : isDirective i = true) (hr : i ≠ .reset)
    (hs : ∀ sec, i ≠ .setSleepTime sec) (s : State) :
    ∃ bytes, microsOf i s = Directive.micros ⟨fieldsFirst i, [.segment bytes]⟩ := by
  cases i with
  | reset => exact absurd rfl hr
  | setSleepTime sec => exact absurd rfl (hs sec)
  | printImage _ _ _ _ | openSession _ | closeSession | initSequence => cases hd
  | _ => exact ⟨_, rfl⟩

/-- The requests with a wait among their moves (R120, R123, R190). -/
theorem wait_mem_microsOf {i : Instr} {s : State} {p : SeqPos} (h : .act p .wait ∈ microsOf i s) :
    i = .reset ∨ (∃ sec, i = .setSleepTime sec) ∨ i = .initSequence := by
  by_contra hne
  obtain ⟨hreset, hsleep, hinit⟩ : i ≠ .reset ∧ (∀ sec, i ≠ .setSleepTime sec) ∧ i ≠ .initSequence := by simpa using hne
  cases hd : isDirective i with
  | true =>
    obtain ⟨bytes, hm⟩ := microsOf_one_segment hd hreset hsleep s
    simp [hm, Directive.micros, place] at h
  | false =>
    cases i with
    | printImage sw sh scale dark => cases hf : imageFault sw sh scale <;> simp [microsOf, hf, rasterMicros] at h
    | openSession ident => simp [microsOf, openMicros] at h
    | closeSession => cases h
    | initSequence => exact hinit rfl
    | _ => cases hd

/-! ### Reserved tags (R82, R88) -/

theorem decode_eq_error_iff {r : Request} :
    decode r = .error (.reservedTag r.latches.op) ↔
      (0x16 < r.latches.op.toNat ∧ r.latches.op.toNat < 0x20) ∨ 0x22 < r.latches.op.toNat := by
  unfold decode
  split
  case h_27 =>
    refine iff_of_true rfl ?_
    simp only [imp_false] at *
    omega
  all_goals exact iff_of_false nofun (by omega)

/-! ### The checks of PrintImage (R201 to R205) -/

theorem refusal_printImage_of_not_ready {sw sh : Nat} {scale dark : Half} {sess : Session} {tWritable : Bool}
    (h : sess = .closed ∨ tWritable = false) : refusal (.printImage sw sh scale dark) sess tWritable = some .notReady := by
  cases sess with
  | closed => rfl
  | opened =>
    obtain rfl := h.resolve_left nofun
    rfl

theorem scaledSize_of_zero {n : Nat} (scale : Half) (h : n = 0) : scaledSize n scale = 0 := by
  simp [scaledSize, h]

/-- A zero source dimension and a zero scaled one are the same error (R202, R203). -/
theorem imageFault_of_scaledSize_zero {sw sh : Nat} {scale : Half}
    (h : scaledSize sw scale = 0 ∨ scaledSize sh scale = 0) : imageFault sw sh scale = some .invalidImage := by
  by_cases hsrc : sw = 0 ∨ sh = 0
  · rw [imageFault, if_pos hsrc]
  · rw [imageFault, if_neg hsrc, if_pos h]

theorem imageFault_of_too_large {sw sh : Nat} {scale : Half} (hdw : scaledSize sw scale ≠ 0)
    (hdh : scaledSize sh scale ≠ 0)
    (h : Config.fieldMax < bytesPerLine (scaledSize sw scale) ∨ Config.fieldMax < scaledSize sh scale) :
    imageFault sw sh scale = some .imageTooLarge := by
  have hsw : sw ≠ 0 := hdw ∘ scaledSize_of_zero scale
  have hsh : sh ≠ 0 := hdh ∘ scaledSize_of_zero scale
  rw [imageFault, if_neg (not_or.mpr ⟨hsw, hsh⟩), if_neg (not_or.mpr ⟨hdw, hdh⟩), if_pos h]

/-- PrintImage while ready, with an image that fails a check (R200, R262). -/
theorem exec_printImage_of_imageFault {sw sh : Nat} {scale : Half} {c : ResultCode} (dark : Half) {s : State}
    (hs : s.sess = .opened) (hw : s.tWritable = true) (hf : imageFault sw sh scale = some c) :
    exec (.printImage sw sh scale dark) s = .next (ended c s) :=
  exec_of_refused nofun (by rw [hs, hw]; exact hf)

end Sys2Proof.Machine

namespace Sys2Proof.Proofs

/-- Settles O11: whether turned away, run, or a Close, the request leaves a state. -/
theorem everyRequestLeavesANextState : Obligations.EveryRequestLeavesANextState := by
  intro i s
  obtain ⟨c, -, h⟩ | ⟨h, -, -⟩ | ⟨-, -, h⟩ | ⟨-, -, h⟩ := exec_cases i s <;> exact ⟨_, h⟩

/-- Settles O42: each gate turns a request away with its code alone, and moves that run report another code. -/
theorem sessionGate : Obligations.SessionGate := by
  refine ⟨fun i s hp ho hc => ?_, fun ident s => ⟨exec_open_of_opened ident, fun hs t es he hh => ?_⟩, fun s t he => ?_⟩
  · have hi := isDirective_or_init hp ho hc
    refine ⟨fun hs => ?_, fun hs t es he hh => ?_⟩
    · obtain hd | rfl := hi
      · exact exec_of_closed hd hs
      · exact exec_init_of_closed hs
    · rw [exec_of_opened hi hs] at he
      cases he
      exact usageError_notMem_of_moves hh
  · rw [exec_open_of_closed ident hs] at he
    cases he
    exact usageError_notMem_of_moves (i := .openSession ident) hh
  · cases hs : s.sess with
    | opened => rw [exec_close_of_opened hs] at he; cases he; rfl
    | closed => rw [exec_close_of_closed hs] at he; cases he; rfl

/-- Settles O43: the first four codes are reported only when the request is turned away, TransportUnavailable only by
the moves of Open. -/
theorem errorsBeforeTheFirstWriteArePrecise : Obligations.ErrorsBeforeTheFirstWriteArePrecise := by
  intro i s t es c h hh
  obtain ⟨e, he, hx⟩ | ⟨hx, -, -⟩ | ⟨-, -, hx⟩ | ⟨-, -, hx⟩ := exec_cases i s <;> rw [hx] at h <;> cases h
  · obtain rfl := result_of_finish hh
    exact ⟨fun _ => rfl, by rintro rfl; simp at he⟩
  · rw [List.append_assoc] at hh
    obtain rfl | rfl | ⟨rfl, hopen⟩ := result_of_moves hh (List.mem_append_right es List.mem_cons_self)
    · exact ⟨by simp, nofun⟩
    · exact ⟨by simp, nofun⟩
    · exact ⟨by simp, fun _ => hopen⟩
  · obtain rfl := result_of_finish hh
    exact ⟨by simp, nofun⟩
  · obtain rfl := result_of_finish hh
    exact ⟨by simp, nofun⟩

/-- Settles O50: the event of a wait comes from a wait among the request's moves. -/
theorem waitsOccurOnlyInThreeRequests : Obligations.WaitsOccurOnlyInThreeRequests := by
  intro i s t es h hh hm
  by_contra hne
  have hcount := exec_count_wait h fun p hp => hne (wait_mem_microsOf hp)
  rw [hh, List.count_append, Nat.add_eq_left, List.count_eq_zero] at hcount
  exact hcount hm

/-- Settles O6: a tag outside the rows of R82 has no instruction, and its request ends with the code alone. -/
theorem reservedTagsAreIllegalRequests : Obligations.ReservedTagsAreIllegalRequests := by
  refine ⟨fun r => decode_eq_error_iff.symm, fun s r rest hop hs hi => ⟨?_, rfl⟩⟩
  rw [step_idle_request hs hi, runRequest_error (decode_eq_error_iff.mpr hop)]
  rfl

/-- Settles O30: readiness is tested before the image, and the image's size after its dimensions. -/
theorem printImageChecksInOrder : Obligations.PrintImageChecksInOrder := by
  refine ⟨fun r => decode_of_retag rfl, fun sw sh scale dark s => ⟨fun h => ?_, fun hs hw h => ?_, fun hs hw h => ?_,
    fun hs hw hdw hdh h => ?_⟩⟩
  · exact exec_of_refused nofun (refusal_printImage_of_not_ready h)
  · refine exec_printImage_of_imageFault dark hs hw (imageFault_of_scaledSize_zero ?_)
    exact h.imp (scaledSize_of_zero scale) (scaledSize_of_zero scale)
  · exact exec_printImage_of_imageFault dark hs hw (imageFault_of_scaledSize_zero h)
  · rw [← bytesPerLine_eq] at h
    exact exec_printImage_of_imageFault dark hs hw (imageFault_of_too_large hdw hdh h)

end Sys2Proof.Proofs
end
